-- ==== Sys2Proof/Word.lean ====
section
/-! DEFINITION. The plain names of the 2160's data: bytes on the wire, the numbers of stations and groups. -/

namespace Sys2Proof

/-- A byte on a link, on a station port's line or in the profile memory. -/
abbrev Byte := BitVec 8

/-- The number of a line station, 0..15 (00_scope.md, Numbering). -/
abbrev StationNo := Fin 16

/-- The number of a group, 0..5 (00_scope.md, Numbering). -/
abbrev GroupNo := Fin 6

end Sys2Proof
end

