-- ==== Sys2Proof/Syntax.lean ====
section
/-! DEFINITION. The commands of the 2160: one constructor of `Instr` per row of spec/opcode_table.json, with the operands the
spec gives the row. A command is an event at one of the part's outside connections, the expiry of one of its timers, or an order
of a master that the Order Unit takes. -/

namespace Sys2Proof

/-- The three masters, each bound to one link (00_scope.md, Numbering). -/
inductive Master where
  | shore
  | vessel
  | quay
  deriving DecidableEq, Repr

/-- An order as a master gives it on its link, less its code, which the command's own row names: the tag, the target byte and
the parameter bytes as they stand in the frame (R123, R154, R158). -/
structure OrderArgs where
  /-- the master whose link carries the order -/
  link : Master
  tag : Byte
  target : Byte
  params : List Byte
  deriving DecidableEq, Repr

/-- The two ways a byte spoils the frame being collected (R154). -/
inductive BadByte where
  /-- the byte's stop bit is at spacing -/
  | stopBitAtSpacing
  /-- the byte that stands where the length is expected -/
  | length (value : Byte)
  deriving DecidableEq, Repr

/-- The commands of the 2160, one per row of the opcode table, in the table's order. -/
inductive Instr where
  /-- POWER_ON (R162). The levels of the two discrete lines at that moment, whether the profile memory responds, and, for a
  power-on during a save, how many of the save's byte writes had been made (R168). -/
  | powerOn (releaseLine quayLine memoryResponds : Bool) (savedWrites : Nat)
  /-- STATION_REPORT (R61): bytes arrive back to back at a station port. -/
  | stationReport (station : StationNo) (bytes : List Byte)
  /-- REPORT_GAP_TIMEOUT (R60) -/
  | reportGapTimeout (station : StationNo)
  /-- REPORT_LOSS_TIMEOUT (R68) -/
  | reportLossTimeout (station : StationNo)
  /-- BRAKE_TIMEOUT (R71, R73) -/
  | brakeTimeout (station : StationNo)
  /-- SET_WATCH_EXPIRY (R74) -/
  | setWatchExpiry (station : StationNo)
  /-- STALL_TIMEOUT (R67) -/
  | stallTimeout (station : StationNo)
  /-- SEAT_TIMEOUT (R36) -/
  | seatTimeout (station : StationNo)
  /-- LATCH_OPEN_TIMEOUT (R40) -/
  | latchOpenTimeout (station : StationNo)
  /-- SURGE_TIMER_EXPIRY (R104) -/
  | surgeTimerExpiry
  /-- HOLDOFF_EXPIRY (R113) -/
  | holdoffExpiry (station : StationNo)
  /-- VESSEL_RELEASE_ASSERTED (R149) -/
  | vesselReleaseAsserted
  /-- VESSEL_RELEASE_DEASSERTED (R149) -/
  | vesselReleaseDeasserted
  /-- EQR_TIMER_EXPIRY (R149, R151) -/
  | eqrTimerExpiry
  /-- QUAY_STOP_ASSERTED (R153) -/
  | quayStopAsserted
  /-- QUAY_STOP_RELEASED (R153) -/
  | quayStopReleased
  /-- LINK_RESET (R157) -/
  | linkReset (link : Master)
  /-- ORDER_FRAME (R154, R155): bytes arrive back to back, each with a good stop bit, on a link. -/
  | orderFrame (link : Master) (bytes : List Byte)
  /-- ORDER_FRAME_GAP_TIMEOUT (R154) -/
  | orderFrameGapTimeout (link : Master)
  /-- ANSWER_SENT (R155) -/
  | answerSent (link : Master)
  /-- RUN_OUT (R33), order code 0x01 -/
  | runOut (order : OrderArgs)
  /-- SEAT (R35), order code 0x02 -/
  | seat (order : OrderArgs)
  /-- RELEASE (R38), order code 0x03 -/
  | release (order : OrderArgs)
  /-- REWIND (R41), order code 0x04 -/
  | rewind (order : OrderArgs)
  /-- STOP (R43), order code 0x05 -/
  | stop (order : OrderArgs)
  /-- TEND (R44), order code 0x06 -/
  | tend (order : OrderArgs)
  /-- CLEAR_FAULT (R47), order code 0x07 -/
  | clearFault (order : OrderArgs)
  /-- SET_SERVICE_OUT (R45), order code 0x08: the service byte 0 stands before the parameter bytes given here, which a
  well-formed order has none of. -/
  | setServiceOut (order : OrderArgs)
  /-- SET_SERVICE_IN (R46), order code 0x08: the service byte 1 stands before the parameter bytes given here. -/
  | setServiceIn (order : OrderArgs)
  /-- SET_PHASE (R4), order code 0x10 -/
  | setPhase (order : OrderArgs)
  /-- TAKE_LOCAL (R126), order code 0x11 -/
  | takeLocal (order : OrderArgs)
  /-- GIVE_LOCAL (R126), order code 0x12 -/
  | giveLocal (order : OrderArgs)
  /-- BERTH_RESET (R169), order code 0x13 -/
  | berthReset (order : OrderArgs)
  /-- SET_PARAM (R132), order code 0x20 -/
  | setParam (order : OrderArgs)
  /-- GET_PARAM (R132), order code 0x21 -/
  | getParam (order : OrderArgs)
  /-- PROFILE_SAVE (R166), order code 0x22 -/
  | profileSave (order : OrderArgs)
  /-- PROFILE_SAVE_END (R167): the cells of the profile memory that hold another value than the save wrote. -/
  | profileSaveEnd (faulty : List (Nat × Byte))
  /-- GET_STATION (R136), order code 0x30 -/
  | getStation (order : OrderArgs)
  /-- GET_BERTH (R137), order code 0x31 -/
  | getBerth (order : OrderArgs)
  /-- READ_HISTORY (R89), order code 0x32 -/
  | readHistory (order : OrderArgs)
  /-- FETCH_ALERT (R145), order code 0x33 -/
  | fetchAlert (order : OrderArgs)
  /-- PROFILE_RELOAD_END (R169): whether the profile memory responded to the reload. -/
  | profileReloadEnd (memoryResponds : Bool)
  /-- FRAMING_ERROR (R154) -/
  | framingError (link : Master) (byte : BadByte)
  deriving DecidableEq, Repr

end Sys2Proof
end

