-- ==== Sys2Proof/Config.lean ====
section
/-! DEFINITION. What the manual leaves to the installation: the content of a profile memory that nothing has written.
The manual gives every other constant, and no instruction of the table leaves a value undefined, so there is no free value here. -/

namespace Sys2Proof.Config

/-- What a byte of the profile memory reads as when nothing has written it.
DESIGN CHOICE (log 1): R164 gives the reading 0xFF for a memory that does not respond; an erased memory is taken to read the same. -/
def blankByte : Byte := 0xFF

end Sys2Proof.Config
end

