-- ==== Sys2Proof/Machine/Bytes.lean ====
section
/-! DEFINITION. The byte layouts' shared arithmetic: the check sum of frames and reports, little-endian numbers, single bits
(section 3.2 of 03_station_ports.md; 00_scope.md, Bytes on the wire; section 10.4 of 10_links_and_frames.md). -/

namespace Sys2Proof.Machine

/-- One bit of the CRC-16 register: polynomial 0x1021, most significant bit first. -/
def crcShift (r : BitVec 16) : BitVec 16 := if r.msb then (r <<< 1) ^^^ 0x1021#16 else r <<< 1

/-- One byte into the CRC-16 register. -/
def crcByte (r : BitVec 16) (b : Byte) : BitVec 16 :=
  let x := r ^^^ ((b.setWidth 16) <<< 8)
  crcShift (crcShift (crcShift (crcShift (crcShift (crcShift (crcShift (crcShift x)))))))

/-- The CRC-16 of a list of bytes: the register starts at 0xFFFF and is not inverted at the end. -/
def crc16 (bytes : List Byte) : BitVec 16 := bytes.foldl crcByte 0xFFFF#16

/-- The two check bytes as sent: high byte first. -/
def checkBytes (bytes : List Byte) : List Byte :=
  let c := crc16 bytes
  [(c >>> 8).setWidth 8, c.setWidth 8]

/-- A number as one byte. -/
def byteOf (n : Nat) : Byte := BitVec.ofNat 8 n

/-- A number as two bytes, low byte first. -/
def le16 (n : Nat) : List Byte := [byteOf n, byteOf (n / 256)]

/-- A number as four bytes, low byte first. -/
def le32 (n : Nat) : List Byte := [byteOf n, byteOf (n / 256), byteOf (n / 65536), byteOf (n / 16777216)]

/-- The number that bytes sent low byte first spell. -/
def numberOf : List Byte → Nat
  | [] => 0
  | b :: bs => b.toNat + 256 * numberOf bs

/-- The weight 2^`place` where a mark is set, 0 where it is clear. -/
def bitAt (place : Nat) (mark : Bool) : Nat := if mark then 2 ^ place else 0

end Sys2Proof.Machine
end

