-- ==== Sys2Proof/Machine/Params.lean ====
section
/-! DEFINITION. The berth's configuration: the items of the five parameter tables, their defaults, the rules by which each item
takes a written value, and the reading and writing of an item by table number and index (R10 to R13, R77, R90, R91, R124, R132
to R134, R139). -/

namespace Sys2Proof.Machine

/-- One value for each master. -/
structure PerMaster (α : Type) where
  shore : α
  vessel : α
  quay : α
  deriving DecidableEq, Repr

/-- The value of one master. -/
def PerMaster.get {α : Type} (p : PerMaster α) : Master → α
  | .shore => p.shore
  | .vessel => p.vessel
  | .quay => p.quay

/-- The same values with one master's replaced. -/
def PerMaster.set {α : Type} (p : PerMaster α) (m : Master) (a : α) : PerMaster α :=
  match m with
  | .shore => { p with shore := a }
  | .vessel => { p with vessel := a }
  | .quay => { p with quay := a }

/-- The masters' numbers: SHORE 0, VESSEL 1, QUAY 2 (00_scope.md, Numbering). -/
def masterNumber : Master → Nat
  | .shore => 0
  | .vessel => 1
  | .quay => 2

/-- The master of a number; 3 and above are no master (R132). -/
def masterOfNumber : Nat → Option Master
  | 0 => some .shore
  | 1 => some .vessel
  | 2 => some .quay
  | _ => none

/-- The three calibration items of a station (R77). -/
structure Calibration where
  /-- z, load-cell counts -/
  zeroOffset : Nat
  /-- g, tu per count times 4096 -/
  gain : Nat
  /-- k -/
  filterShift : Nat
  deriving DecidableEq, Repr

/-- The eight band parameters of a station (R90). -/
structure Band where
  /-- L -/
  low : Nat
  /-- T -/
  target : Nat
  /-- H -/
  high : Nat
  /-- hb -/
  hysteresis : Nat
  /-- P -/
  trip : Nat
  /-- E -/
  releaseLimit : Nat
  /-- D, reports -/
  dwell : Nat
  /-- M, counts -/
  maxPayout : Nat
  deriving DecidableEq, Repr

/-- One record of the group table (R10). `first` is 255 while the group is disabled. -/
structure Group where
  first : Nat
  last : Nat
  minimum : Nat
  rank : Nat
  deriving DecidableEq, Repr

/-- A level of the authority table (R124). -/
inductive Authority where
  | none
  | observe
  | order
  deriving DecidableEq, Repr

/-- The fourteen berth items of parameter table 5 (R134). -/
structure BerthItems where
  grantLimit : Nat
  seatTimeout : Nat
  latchOpenTimeout : Nat
  brakeTimeout : Nat
  stallInterval : Nat
  reportLossInterval : Nat
  surgeStep : Nat
  surgeHold : Nat
  eqrHold : Nat
  preemptHoldoff : Nat
  attention : PerMaster Nat
  reloadOnReset : Nat
  deriving DecidableEq, Repr

/-- The five parameter tables (R132). -/
structure Params where
  /-- table 1, items 0..2 of each station -/
  calibration : Vector Calibration 16
  /-- table 1, items 3..10 of each station -/
  band : Vector Band 16
  /-- table 2 -/
  groups : Vector Group 6
  /-- table 3: one level 0..3 for each alert kind and master -/
  routing : Vector (PerMaster Nat) 16
  /-- table 4: one level for each master and scope 0..7 -/
  authority : PerMaster (Vector Authority 8)
  /-- table 5 -/
  berth : BerthItems
  deriving DecidableEq, Repr

/-! ### Defaults -/

/-- R77 -/
def Calibration.default : Calibration := { zeroOffset := 0, gain := 400, filterShift := 2 }

/-- R90 -/
def Band.default : Band :=
  { low := 300, target := 400, high := 550, hysteresis := 30, trip := 1500, releaseLimit := 50, dwell := 5, maxPayout := 40000 }

/-- R14 -/
def Group.default : Group := { first := 255, last := 15, minimum := 0, rank := 0 }

/-- R134 -/
def BerthItems.default : BerthItems :=
  { grantLimit := 4, seatTimeout := 8000, latchOpenTimeout := 5000, brakeTimeout := 1000, stallInterval := 2000,
    reportLossInterval := 250, surgeStep := 250, surgeHold := 10000, eqrHold := 3000, preemptHoldoff := 2000,
    attention := { shore := 1, vessel := 1, quay := 1 }, reloadOnReset := 0 }

/-- The default routing levels, by alert kind code (R139). -/
def routingDefault : Vector (PerMaster Nat) 16 :=
  #v[⟨0, 0, 0⟩, ⟨1, 0, 0⟩, ⟨2, 2, 3⟩, ⟨2, 2, 3⟩, ⟨1, 1, 2⟩, ⟨1, 1, 1⟩, ⟨1, 2, 1⟩, ⟨3, 3, 3⟩,
     ⟨1, 1, 1⟩, ⟨1, 0, 0⟩, ⟨3, 3, 3⟩, ⟨3, 3, 3⟩, ⟨2, 2, 2⟩, ⟨2, 2, 1⟩, ⟨1, 0, 0⟩, ⟨0, 0, 1⟩]

/-- R124: every entry is ORDER at power-on. -/
def authorityDefault : PerMaster (Vector Authority 8) :=
  { shore := Vector.replicate 8 .order, vessel := Vector.replicate 8 .order, quay := Vector.replicate 8 .order }

/-- Every item at its default (R135). -/
def Params.default : Params :=
  { calibration := Vector.replicate 16 .default
    band := Vector.replicate 16 .default
    groups := Vector.replicate 6 .default
    routing := routingDefault
    authority := authorityDefault
    berth := .default }

/-! ### Writing one item -/

/-- Clamping (00_scope.md, Arithmetic). -/
def clamp (low high v : Nat) : Nat := max low (min high v)

/-- R77: none of the three items is refused. -/
def Calibration.write (c : Calibration) (item v : Nat) : Calibration :=
  match item with
  | 0 => { c with zeroOffset := clamp 0 65535 v }
  | 1 => { c with gain := clamp 1 65535 v }
  | 2 => { c with filterShift := clamp 0 4 v }
  | _ => c

/-- The order test of R91. -/
def Band.ordered (b : Band) : Bool :=
  b.low < b.target && b.target < b.high && b.high < b.trip
    && b.hysteresis < b.target - b.low && b.hysteresis < b.high - b.target && b.releaseLimit < b.target

/-- R91: clamp, then the order test for the six tensions; `none` is the refusal RANGE. Items are numbered 3..10. -/
def Band.write (b : Band) (item v : Nat) : Option Band :=
  let checked (b' : Band) : Option Band := if b'.ordered then some b' else none
  match item with
  | 3 => checked { b with low := clamp 0 4000 v }
  | 4 => checked { b with target := clamp 0 4000 v }
  | 5 => checked { b with high := clamp 0 4000 v }
  | 6 => checked { b with hysteresis := clamp 0 4000 v }
  | 7 => checked { b with trip := clamp 0 4000 v }
  | 8 => checked { b with releaseLimit := clamp 0 4000 v }
  | 9 => some { b with dwell := clamp 1 32 v }
  | 10 => some { b with maxPayout := clamp 1000 65000 v }
  | _ => none

/-- R10: a group is enabled unless its `first` is 255. -/
def Group.enabled (g : Group) : Bool := g.first < 16

/-- R10: an enabled group contains the stations first to last. -/
def Group.contains (g : Group) (i : Nat) : Bool := g.enabled && g.first ≤ i && i ≤ g.last

/-- R10: last − first + 1. -/
def Group.size (g : Group) : Nat := g.last + 1 - g.first

/-- R13: two enabled groups with a station in common. -/
def Group.overlaps (g h : Group) : Bool := g.enabled && h.enabled && g.first ≤ h.last && h.first ≤ g.last

/-- R13: no group but number `n` overlaps `g`. -/
def groupFits (groups : Vector Group 6) (n : Nat) (g : Group) : Bool :=
  (List.finRange 6).all fun j => j.val == n || !(g.overlaps groups[j])

/-- R12, R13: a write to one item of group `n`; `none` is the refusal RANGE. -/
def writeGroup (groups : Vector Group 6) (n : Fin 6) (item v : Nat) : Option (Vector Group 6) :=
  let g := groups[n]
  let stored (g' : Group) : Option (Vector Group 6) := some (groups.set n.val g' n.isLt)
  match item with
  | 0 =>
    if 16 ≤ v then stored { g with first := 255 }
    else
      let last := max g.last v
      let g' : Group := { g with first := v, last := last, minimum := min g.minimum (last + 1 - v) }
      if groupFits groups n.val g' then stored g' else none
  | 1 =>
    let last := clamp 0 15 v
    if g.enabled then
      if last < g.first then none
      else
        let g' : Group := { g with last := last, minimum := min g.minimum (last + 1 - g.first) }
        if groupFits groups n.val g' then stored g' else none
    else stored { g with last := last }
  | 2 =>
    let low := clamp 0 8 v
    stored { g with minimum := if g.enabled then min low g.size else low }
  | 3 => stored { g with rank := clamp 0 7 v }
  | _ => none

/-- The levels of R124 by number; a number above 2 is none (R133). -/
def Authority.ofNumber : Nat → Option Authority
  | 0 => some .none
  | 1 => some .observe
  | 2 => some .order
  | _ => Option.none

/-- The levels of R124 as numbers. -/
def Authority.number : Authority → Nat
  | .none => 0
  | .observe => 1
  | .order => 2

/-- An attention threshold: above 3 refused RANGE, 0 stored as 1 (R133, R134, R144). -/
def thresholdWrite (v : Nat) : Option Nat := if 3 < v then none else some (max 1 v)

/-- R134: a write to one berth item; `none` is the refusal RANGE. -/
def BerthItems.write (b : BerthItems) (item v : Nat) : Option BerthItems :=
  match item with
  | 0 => some { b with grantLimit := clamp 1 6 v }
  | 1 => some { b with seatTimeout := clamp 1000 30000 v }
  | 2 => some { b with latchOpenTimeout := clamp 1000 15000 v }
  | 3 => some { b with brakeTimeout := clamp 200 3000 v }
  | 4 => some { b with stallInterval := clamp 500 10000 v }
  | 5 => some { b with reportLossInterval := clamp 50 1000 v }
  | 6 => some { b with surgeStep := clamp 0 4000 v }
  | 7 => some { b with surgeHold := clamp 1000 60000 v }
  | 8 => some { b with eqrHold := clamp 1000 5000 v }
  | 9 => some { b with preemptHoldoff := clamp 0 10000 v }
  | 10 => (thresholdWrite v).map fun t => { b with attention := { b.attention with shore := t } }
  | 11 => (thresholdWrite v).map fun t => { b with attention := { b.attention with vessel := t } }
  | 12 => (thresholdWrite v).map fun t => { b with attention := { b.attention with quay := t } }
  | 13 => some { b with reloadOnReset := clamp 0 1 v }
  | _ => none

/-- R132, R133: the item of a table and index takes a value; `none` is the refusal RANGE, for an unknown table or index or for
a value the keeping block refuses. -/
def Params.write (p : Params) (table index v : Nat) : Option Params :=
  match table with
  | 1 =>
    if h : index / 16 < 16 then
      let item := index % 16
      if item < 3 then
        some { p with calibration := p.calibration.set (index / 16) (p.calibration[index / 16].write item v) }
      else (p.band[index / 16].write item v).map fun b => { p with band := p.band.set (index / 16) b }
    else none
  | 2 =>
    if h : index / 4 < 6 then (writeGroup p.groups ⟨index / 4, h⟩ (index % 4) v).map fun g => { p with groups := g }
    else none
  | 3 =>
    if h : index / 4 < 16 then
      match masterOfNumber (index % 4) with
      | none => none
      | some m => if 3 < v then none else some { p with routing := p.routing.set (index / 4) (p.routing[index / 4].set m v) }
    else none
  | 4 =>
    match masterOfNumber (index / 8), Authority.ofNumber v with
    | some m, some a =>
      some { p with authority := p.authority.set m ((p.authority.get m).set (index % 8) a (Nat.mod_lt _ (by decide))) }
    | _, _ => none
  | 5 => (p.berth.write index v).map fun b => { p with berth := b }
  | _ => none

/-! ### Reading one item -/

/-- R77 -/
def Calibration.read (c : Calibration) : Nat → Option Nat
  | 0 => some c.zeroOffset
  | 1 => some c.gain
  | 2 => some c.filterShift
  | _ => none

/-- R90, items 3..10. -/
def Band.read (b : Band) : Nat → Option Nat
  | 3 => some b.low
  | 4 => some b.target
  | 5 => some b.high
  | 6 => some b.hysteresis
  | 7 => some b.trip
  | 8 => some b.releaseLimit
  | 9 => some b.dwell
  | 10 => some b.maxPayout
  | _ => none

/-- R10 -/
def Group.read (g : Group) : Nat → Option Nat
  | 0 => some g.first
  | 1 => some g.last
  | 2 => some g.minimum
  | 3 => some g.rank
  | _ => none

/-- R134 -/
def BerthItems.read (b : BerthItems) : Nat → Option Nat
  | 0 => some b.grantLimit
  | 1 => some b.seatTimeout
  | 2 => some b.latchOpenTimeout
  | 3 => some b.brakeTimeout
  | 4 => some b.stallInterval
  | 5 => some b.reportLossInterval
  | 6 => some b.surgeStep
  | 7 => some b.surgeHold
  | 8 => some b.eqrHold
  | 9 => some b.preemptHoldoff
  | 10 => some b.attention.shore
  | 11 => some b.attention.vessel
  | 12 => some b.attention.quay
  | 13 => some b.reloadOnReset
  | _ => none

/-- R132: the value an item holds; `none` is the refusal RANGE for an unknown table or index. -/
def Params.read (p : Params) (table index : Nat) : Option Nat :=
  match table with
  | 1 =>
    if h : index / 16 < 16 then
      if index % 16 < 3 then p.calibration[index / 16].read (index % 16) else p.band[index / 16].read (index % 16)
    else none
  | 2 => if h : index / 4 < 6 then p.groups[index / 4].read (index % 4) else none
  | 3 =>
    if h : index / 4 < 16 then (masterOfNumber (index % 4)).map fun m => p.routing[index / 4].get m else none
  | 4 =>
    (masterOfNumber (index / 8)).map fun m => ((p.authority.get m)[index % 8]'(Nat.mod_lt _ (by decide))).number
  | 5 => p.berth.read index
  | _ => none

end Sys2Proof.Machine
end

