-- ==== Sys2Proof/Machine/Station.lean ====
section
/-! DEFINITION. What the part holds for one line station: the station record of its Sequencer (R22, R93), the state of its port
(R59) and its items in the Tension Unit (R76, R93); with the codes the layouts give them, and the values after power-on. -/

namespace Sys2Proof.Machine

/-- The thirteen states of a station (R25). -/
inductive LineState where
  | outOfService
  | stowed
  | payout
  | slack
  | presented
  | seating
  | takeup
  | held
  | tending
  | easing
  | releasing
  | rewinding
  | faulted
  deriving DecidableEq, Repr

/-- The codes of R25. -/
def LineState.code : LineState → Nat
  | .outOfService => 0
  | .stowed => 1
  | .payout => 2
  | .slack => 3
  | .presented => 4
  | .seating => 5
  | .takeup => 6
  | .held => 7
  | .tending => 8
  | .easing => 9
  | .releasing => 10
  | .rewinding => 11
  | .faulted => 12

/-- The four operations (R29). -/
inductive Operation where
  | runOut
  | seat
  | release
  | rewind
  deriving DecidableEq, Repr

/-- The code of the operation's order (R30, R158). -/
def Operation.code : Operation → Nat
  | .runOut => 1
  | .seat => 2
  | .release => 3
  | .rewind => 4

/-- Why an operation fails (R30). -/
inductive FailReason where
  | cancelled
  | timeout
  | limit
  | fault
  | emergency
  | reset
  deriving DecidableEq, Repr

/-- The details of OP_FAILED (R30). -/
def FailReason.code : FailReason → Nat
  | .cancelled => 1
  | .timeout => 2
  | .limit => 3
  | .fault => 4
  | .emergency => 5
  | .reset => 6

/-- The eight fault causes (R49). -/
inductive FaultCause where
  | latchStuck
  | latchLost
  | brake
  | stall
  | encoder
  | reportLost
  | module
  | loadRange
  deriving DecidableEq, Repr

/-- The codes of R49. -/
def FaultCause.code : FaultCause → Nat
  | .latchStuck => 1
  | .latchLost => 2
  | .brake => 3
  | .stall => 4
  | .encoder => 5
  | .reportLost => 6
  | .module => 7
  | .loadRange => 8

/-- The latch command (R26). -/
inductive LatchCommand where
  | none
  | close
  | open
  deriving DecidableEq, Repr

/-- Bits 3–4 of the command byte (section 3.2). -/
def LatchCommand.code : LatchCommand → Nat
  | .none => 0
  | .close => 1
  | .open => 2

/-- Which way the drum corrects the tension (R93), or turns at all. -/
inductive Direction where
  | pay
  | haul
  deriving DecidableEq, Repr

/-- The drive command (R59). -/
inductive DriveCommand where
  | off
  | hold
  | haul
  | pay
  deriving DecidableEq, Repr

/-- Bits 0–1 of the command byte (section 3.2). -/
def DriveCommand.code : DriveCommand → Nat
  | .off => 0
  | .hold => 1
  | .haul => 2
  | .pay => 3

/-- The command that drives in a direction. -/
def Direction.drive : Direction → DriveCommand
  | .pay => .pay
  | .haul => .haul

/-- The brake, as commanded and as read (R59). -/
inductive Brake where
  | set
  | free
  deriving DecidableEq, Repr

/-- Bit 2 of the command byte and of the sensor byte (section 3.2). -/
def Brake.code : Brake → Nat
  | .set => 0
  | .free => 1

/-- The latch as read (R59). -/
inductive Latch where
  | open
  | closed
  | moving
  deriving DecidableEq, Repr

/-- Bits 0–1 of the sensor byte (section 3.2). -/
def Latch.code : Latch → Nat
  | .open => 0
  | .closed => 1
  | .moving => 2

/-- The handshake phase (R70). -/
inductive Handshake where
  | rest
  | freeing
  | driving
  | setting
  deriving DecidableEq, Repr

/-- Byte 15 of GET_STATION (R160). -/
def Handshake.code : Handshake → Nat
  | .rest => 0
  | .freeing => 1
  | .driving => 2
  | .setting => 3

/-- The brake timer: stopped, or running a handshake step or a set watch, with the duration it was started at (R59). -/
inductive BrakeTimer where
  | stopped
  | step (duration : Nat)
  | watch (duration : Nat)
  deriving DecidableEq, Repr

/-- At which of its four events a reconstruction began (R53). R57 tells CLEAR_FAULT from the others. -/
inductive Reconstruction where
  | powerOn
  | berthReset
  | clearFault
  | service
  deriving DecidableEq, Repr

/-- Tending direction and class, present only in TENDING (R93). -/
structure Tending where
  direction : Direction
  cls : Nat
  deriving DecidableEq, Repr

/-- The station record (R22) with the Sequencer's timers and latch command, and the tending items of R93. A timer holds the
duration it was started at while it runs (R134). `settling` of R22 is `recon.isSome`, `in service` is the state not being
OUT_OF_SERVICE, and the drive status is read from the Arbiter's lists, which it mirrors (R27, R118). -/
structure Record where
  state : LineState
  /-- the reconstruction under way while the station settles (R53) -/
  recon : Option Reconstruction
  operation : Option Operation
  owner : Option Master
  runOutTarget : Option Nat
  tendingHold : Bool
  faultCause : Option FaultCause
  faultCount : Nat
  payoutLength : Option Nat
  tending : Option Tending
  latchCommand : LatchCommand
  seatTimer : Option Nat
  latchOpenTimer : Option Nat
  deriving DecidableEq, Repr

/-- The readings of the most recent taken report, with its load sample (R59, R62). -/
structure Readings where
  latch : Latch
  brake : Brake
  endStop : Bool
  moduleFault : Bool
  loadSample : BitVec 16
  deriving DecidableEq, Repr

/-- The state of a station port (R59, R60, R63). -/
structure Port where
  /-- the readings; none before the first taken report -/
  readings : Option Readings
  /-- the previous encoder count; none while unseeded -/
  encoder : Option (BitVec 16)
  reportSinceFault : Bool
  drive : DriveCommand
  brake : Brake
  handshake : Handshake
  reportLossTimer : Option Nat
  brakeTimer : BrakeTimer
  stallTimer : Option Nat
  /-- the bytes of the report block being collected (R60) -/
  block : List Byte
  /-- the last command set sent to the module, as its bytes on the line (R63) -/
  sentSet : List Byte
  /-- the model's own: how many command sets have been sent since power-on (R63) -/
  sends : Nat
  /-- the model's own: a command set is to be sent when the work on the present event is done (R63) -/
  sendDue : Bool
  deriving DecidableEq, Repr

/-- A station's items in the Tension Unit (R76, R93). -/
structure Tension where
  scaled : Option Nat
  saturated : Bool
  saturationRun : Nat
  filtered : Option Nat
  seedPending : Bool
  /-- the history ring, oldest first -/
  history : List Nat
  hi : Nat
  lo : Nat
  deriving DecidableEq, Repr

/-- One line station. -/
structure Station where
  record : Record
  port : Port
  tension : Tension
  deriving DecidableEq, Repr

/-! ### Power-on values -/

/-- R23, column Power-on. Settling begins when the load ends (R162). -/
def Record.powerOn : Record :=
  { state := .slack, recon := some .powerOn, operation := none, owner := none, runOutTarget := none, tendingHold := false,
    faultCause := none, faultCount := 0, payoutLength := none, tending := none, latchCommand := .none, seatTimer := none,
    latchOpenTimer := none }

/-- R59, column Power-on. The report-loss timer and the set watch start when the load ends (R162). That no report block is being
collected is the model's choice: the table does not list one (DESIGN CHOICE, log 29). -/
def Port.powerOn : Port :=
  { readings := none, encoder := none, reportSinceFault := false, drive := .off, brake := .set, handshake := .rest,
    reportLossTimer := none, brakeTimer := .stopped, stallTimer := none, block := [], sentSet := [], sends := 0,
    sendDue := false }

/-- R76 and R93, power-on. -/
def Tension.powerOn : Tension :=
  { scaled := none, saturated := false, saturationRun := 0, filtered := none, seedPending := true, history := [], hi := 0,
    lo := 0 }

/-- A station at power-on. -/
def Station.powerOn : Station := { record := .powerOn, port := .powerOn, tension := .powerOn }

/-! ### Reading a station -/

/-- R22: settling. -/
def Station.settling (st : Station) : Bool := st.record.recon.isSome

/-- R22: in service. -/
def Station.inService (st : Station) : Bool := st.record.state ≠ .outOfService

/-- The drive request of the station's state, with its class and direction (R25, R27). -/
def Station.request (st : Station) : Option (Nat × Direction) :=
  match st.record.state with
  | .payout => some (2, .pay)
  | .takeup => some (1, .haul)
  | .tending => st.record.tending.map fun t => (t.cls, t.direction)
  | .easing => some (1, .pay)
  | .rewinding => some (2, .haul)
  | .outOfService => none
  | .stowed => none
  | .slack => none
  | .presented => none
  | .seating => none
  | .held => none
  | .releasing => none
  | .faulted => none

/-- The latch reading with none counted as OPEN, as in every test on the latch of a FAULTED station (R163). -/
def Station.latchReading (st : Station) : Latch :=
  match st.port.readings with
  | some r => r.latch
  | none => .open

/-- The command byte of a command set (section 3.2). -/
def Station.commandByte (st : Station) : Nat :=
  st.port.drive.code + 4 * st.port.brake.code + 8 * st.record.latchCommand.code

/-- The command set of station `i` as a block on its line (section 3.2, R63). -/
def Station.commandSet (i : StationNo) (st : Station) : List Byte :=
  let body := [byteOf i.val, byteOf st.commandByte]
  body ++ checkBytes body

end Sys2Proof.Machine
end

