-- ==== Sys2Proof/Machine/State.lean ====
section
/-! DEFINITION. The whole state of the 2160, block by block (00_scope.md, The blocks), the reasons a step can stop, and the
state right after the power-on reset. State is plain data. INVENTORY.md lists every item with its rule and its reset value. -/

namespace Sys2Proof.Machine

/-- The six berth phases (R1). -/
inductive Phase where
  | starting
  | vacant
  | alongside
  | moored
  | unmooring
  | emergency
  deriving DecidableEq, Repr

/-- The sixteen alert kinds (R138). -/
inductive AlertKind where
  | opDone
  | opFailed
  | fault
  | overload
  | lengthLimit
  | faultCleared
  | phase
  | planShort
  | surgeStart
  | surgeEnd
  | eqrArming
  | eqrFired
  | eqrAbandoned
  | quayStop
  | profile
  | preempted
  deriving DecidableEq, Repr

/-- What an alert happened to (R138). -/
inductive Subject where
  | station (i : StationNo)
  | group (g : GroupNo)
  | berth
  deriving DecidableEq, Repr

/-- An entry of an alert queue (R138, R141). -/
structure AlertEntry where
  kind : AlertKind
  subject : Subject
  detail : Nat
  level : Nat
  mergeCount : Nat
  /-- the arrival rank -/
  rank : Nat
  deriving DecidableEq, Repr

/-- One master's alert queue, in queue order, with its lost flag and its link's attention output (R141, R144). -/
structure Mailbox where
  entries : List AlertEntry
  /-- the rank the next entry inserted takes -/
  nextRank : Nat
  lost : Bool
  /-- the attention output of the master's link -/
  attention : Bool
  deriving DecidableEq, Repr

/-- A decoded order (R121, R155). -/
structure Order where
  code : Byte
  tag : Byte
  target : Byte
  params : List Byte
  deriving DecidableEq, Repr

/-- The outcome of an order: ACCEPTED, DONE or a refusal reason (R159). -/
inductive Verdict where
  | accepted
  | done
  | unknownOrder
  | badFormat
  | badTarget
  | noAuthority
  | localControl
  | busy
  | wrongState
  | phase
  | planMinimum
  | sequence
  | range
  | profileBusy
  | starting
  deriving DecidableEq, Repr

/-- A station order aimed at a group or at all stations, while the Order Unit works it station by station (R121, R129): the link
and the order, the stations whose turn is still to come, and the result of each station that has had its turn: accepted, or
refused with a reason. -/
structure OrderUnderWay where
  link : Master
  order : Order
  rest : List StationNo
  results : List (StationNo × Option Verdict)
  deriving DecidableEq, Repr

/-- A link's receiver (R154): hunting, or collecting with the bytes taken since the sync byte. -/
inductive Receiver where
  | hunting
  | collecting (taken : List Byte)
  deriving DecidableEq, Repr

/-- A link interface (R154, R155): the frame being received, the waiting slot, and the answer frame being sent; the
transmitter is idle while there is none. -/
structure Link where
  receiver : Receiver
  waiting : Option Order
  sending : Option (List Byte)
  deriving DecidableEq, Repr

/-- What follows when a returning holder's grant comes back (R110). -/
inductive AfterReturn where
  /-- the station left its drive state: no entry of that motion is left -/
  | ended
  /-- preempted: holdoff (R113) -/
  | preempted
  /-- stopped for a lowered limit or the quay stop: re-queued (R115) -/
  | requeue
  deriving DecidableEq, Repr

/-- A holder is active or returning (R107). -/
inductive HolderCondition where
  | active
  | returning (after : AfterReturn)
  deriving DecidableEq, Repr

/-- An entry of the holder list (R107). -/
structure Holder where
  station : StationNo
  cls : Nat
  condition : HolderCondition
  grantTime : Nat
  deriving DecidableEq, Repr

/-- An entry of the grant queue (R108): `front` is the grant time given up, in the front part of the class. -/
structure QueueEntry where
  station : StationNo
  cls : Nat
  front : Option Nat
  deriving DecidableEq, Repr

/-- A station in holdoff, with the duration its timer was started at (R107, R113). -/
structure Holdoff where
  station : StationNo
  duration : Nat
  deriving DecidableEq, Repr

/-- Where the quick release stands (R148). -/
inductive EqrState where
  | idle
  | arming
  | fired
  deriving DecidableEq, Repr

/-- The result of a profile load (R164, R165). -/
inductive LoadResult where
  | loaded
  | absent
  | invalid
  deriving DecidableEq, Repr

/-- The profile status (R165). -/
structure ProfileStatus where
  result : LoadResult
  applied : Nat
  skipped : Nat
  deriving DecidableEq, Repr

/-- One entry of the profile image: a table, an index and a value (section 11.2). -/
structure ProfileEntry where
  table : Nat
  index : Nat
  value : Nat
  deriving DecidableEq, Repr

/-- A berth reset whose profile reload is under way (R169, step 3): the order being answered, and whether the shore link has
not been reset since, so that its answer is still to be sent (R157). -/
structure Reload where
  order : Order
  answerDue : Bool
  deriving DecidableEq, Repr

/-- The whole machine. -/
structure State where
  /-- Berth Plan Unit: the berth phase (R1) -/
  phase : Phase
  /-- Berth Plan Unit: the short flag of each group (R17) -/
  shortFlags : Vector Bool 6
  /-- the five parameter tables (R132) -/
  params : Params
  /-- the sixteen stations: record, port, tension items -/
  stations : Vector Station 16
  /-- Tension Unit: the berth surge timer (R103) -/
  surgeTimer : Option Nat
  /-- Drive Arbiter: the holder list, in grant order (R107) -/
  holders : List Holder
  /-- Drive Arbiter: the grant queue, in queue order (R108) -/
  queue : List QueueEntry
  /-- Drive Arbiter: the holdoff list (R113) -/
  holdoffs : List Holdoff
  /-- Drive Arbiter: the next grant time (R107) -/
  nextGrant : Nat
  /-- Emergency Unit: the quick-release state (R148) -/
  eqr : EqrState
  /-- Emergency Unit: the EQR timer (R148) -/
  eqrTimer : Option Nat
  /-- Emergency Unit: the release level, true while asserted (R148) -/
  releaseLine : Bool
  /-- Emergency Unit and Drive Arbiter: the quay stop level, true while asserted (R148, R107) -/
  quayStop : Bool
  /-- Order Unit: the local-control flag of each group (R126) -/
  localControl : Vector Bool 6
  /-- Order Unit: the link it looks at first (R121) -/
  nextLink : Master
  /-- Order Unit: the order on several stations that it is working (R121, R129) -/
  underWay : Option OrderUnderWay
  /-- the three link interfaces (R154, R155) -/
  links : PerMaster Link
  /-- Alert Unit: the three alert queues (R141) -/
  mailboxes : PerMaster Mailbox
  /-- Profile Controller: the profile status (R165) -/
  profile : ProfileStatus
  /-- Profile Controller: the entries of the image being written, while a save is in progress (R166) -/
  saving : Option (List ProfileEntry)
  /-- Profile Controller: a berth reset's reload under way (R169) -/
  reload : Option Reload
  /-- the 2048-byte profile memory (section 11.2), in canonical form -/
  memory : List Host.Cell
  /-- the model's own: the commands that are waiting, first in, first out -/
  pending : List Instr
  deriving DecidableEq, Repr

/-- The reasons a step stops with a fault: none. The spec gives every command an effect in every state. -/
inductive Fault where
  deriving DecidableEq, Repr

/-- The reasons a step is refused. -/
inductive Refusal where
  /-- Raised by an arm of `exec` whose command has no meaning yet; no arm raises it. Safe: the run stops. -/
  | notModelled (mnemonic : String)
  deriving DecidableEq, Repr

/-! ### Reset -/

/-- An empty alert queue, its attention output deasserted (R146). -/
def Mailbox.empty : Mailbox := { entries := [], nextRank := 0, lost := false, attention := false }

/-- A link at power-on (R154). -/
def Link.powerOn : Link := { receiver := .hunting, waiting := none, sending := none }

/-- Station `i` when the power-on load has ended with no entry applied: reconstruction has begun, the report-loss timer and the
set watch run at their defaults, and the command set has been sent (R162, R63, R134). -/
def Station.reset (i : StationNo) : Station :=
  { record := .powerOn
    port := { Port.powerOn with
      reportLossTimer := some BerthItems.default.reportLossInterval
      brakeTimer := .watch BerthItems.default.brakeTimeout
      sentSet := Station.commandSet i .powerOn
      sends := 1 }
    tension := .powerOn }

/-- The machine right after the power-on reset: the state in which POWER_ON leaves the part when its profile memory has nothing
written (R162, R164: ABSENT, so every item stands at its default) and both discrete lines are deasserted. The PROFILE alert of
the load waits in the shore's queue at level 1 (R165, R139). Log 1 and 2 name what the spec does not fix: the memory's content
and the lines' levels. -/
def State.reset : State :=
  { phase := .starting
    shortFlags := Vector.replicate 6 false
    params := .default
    stations := Vector.ofFn Station.reset
    surgeTimer := none
    holders := []
    queue := []
    holdoffs := []
    nextGrant := 0
    eqr := .idle
    eqrTimer := none
    releaseLine := false
    quayStop := false
    localControl := Vector.replicate 6 false
    nextLink := .shore
    underWay := none
    links := ⟨.powerOn, .powerOn, .powerOn⟩
    mailboxes :=
      { shore :=
          { entries := [{ kind := .profile, subject := .berth, detail := 2, level := 1, mergeCount := 1, rank := 0 }]
            nextRank := 1, lost := false, attention := true }
        vessel := .empty
        quay := .empty }
    profile := { result := .absent, applied := 0, skipped := 0 }
    saving := none
    reload := none
    memory := []
    pending := [] }

end Sys2Proof.Machine
end

