-- ==== Sys2Proof/Machine/Ops.lean ====
section
/-! DEFINITION. The named operations over the state: one station's record, port and tension items; the profile memory; the
integer arithmetic of the manual. Every other file reads and changes stations and memory through these. -/

namespace Sys2Proof.Machine

/-- The sixteen stations in ascending number (R129). -/
def allStations : List StationNo := [0, 1, 2, 3, 4, 5, 6, 7, 8, 9, 10, 11, 12, 13, 14, 15]

/-- The six groups in ascending number. -/
def allGroups : List GroupNo := [0, 1, 2, 3, 4, 5]

/-- Station `i`. -/
def State.st (s : State) (i : StationNo) : Station := s.stations[i]

/-- Change station `i`. -/
def State.modSt (s : State) (i : StationNo) (f : Station → Station) : State :=
  { s with stations := s.stations.set i.val (f (s.st i)) i.isLt }

/-- Change the record of station `i`. -/
def State.modRecord (s : State) (i : StationNo) (f : Record → Record) : State :=
  s.modSt i fun st => { st with record := f st.record }

/-- Change the port of station `i`. -/
def State.modPort (s : State) (i : StationNo) (f : Port → Port) : State :=
  s.modSt i fun st => { st with port := f st.port }

/-- Change the tension items of station `i`. -/
def State.modTension (s : State) (i : StationNo) (f : Tension → Tension) : State :=
  s.modSt i fun st => { st with tension := f st.tension }

/-- The calibration items of station `i` in force (R77). -/
def State.calibration (s : State) (i : StationNo) : Calibration := s.params.calibration[i]

/-- The band parameters of station `i` in force (R92). -/
def State.band (s : State) (i : StationNo) : Band := s.params.band[i]

/-- The berth items in force (R134). -/
def State.berth (s : State) : BerthItems := s.params.berth

/-- The record of group `g` (R10). -/
def State.group (s : State) (g : GroupNo) : Group := s.params.groups[g]

/-- Set one of the six flags of a group-indexed vector. -/
def setFlag (flags : Vector Bool 6) (g : GroupNo) (b : Bool) : Vector Bool 6 := flags.set g.val b g.isLt

/-! ### Arithmetic -/

/-- Convergent rounding of `p / q`, for positive `q`: the nearest integer, a tie to the even one, for either sign
(00_scope.md, Arithmetic). -/
def convergent (p : Int) (q : Nat) : Int :=
  let whole := p / (q : Int)
  let rest := p % (q : Int)
  if 2 * rest < (q : Int) then whole
  else if 2 * rest > (q : Int) then whole + 1
  else if whole % 2 = 0 then whole else whole + 1

/-- Clamping an integer to 0..`high`. -/
def clampInt (high : Nat) (v : Int) : Nat := min high v.toNat

/-! ### The profile memory -/

/-- The size of the profile memory in bytes (section 11.2). -/
def memorySize : Nat := 2048

/-- Lookup in a list of cells. -/
def cellAt : List Host.Cell → Nat → Byte
  | [], _ => Config.blankByte
  | (a, b) :: rest, n => if a = n then b else cellAt rest n

/-- Store in a list of cells kept in rising order; storing what an unlisted address reads as removes the cell. -/
def storeCell : List Host.Cell → Nat → Byte → List Host.Cell
  | [], n, v => if v = Config.blankByte then [] else [(n, v)]
  | (a, b) :: rest, n, v =>
    if a < n then (a, b) :: storeCell rest n v
    else if a = n then (if v = Config.blankByte then rest else (n, v) :: rest)
    else if v = Config.blankByte then (a, b) :: rest
    else (n, v) :: (a, b) :: rest

/-- Store a byte at an address of the profile memory; there is no address at or above 2048 (section 11.2). -/
def writeCell (mem : List Host.Cell) (c : Host.Cell) : List Host.Cell :=
  if c.1 < memorySize then storeCell mem c.1 c.2 else mem

/-- Store cells one after another. -/
def writeCells (mem : List Host.Cell) (cells : List Host.Cell) : List Host.Cell := cells.foldl writeCell mem

/-- The canonical form: addresses strictly rising from `low` on and below the memory's size, no cell equal to what an unlisted
address reads as. -/
def memoryFormFrom : Nat → List Host.Cell → Bool
  | _, [] => true
  | low, (a, b) :: rest => low ≤ a && a < memorySize && b ≠ Config.blankByte && memoryFormFrom (a + 1) rest

/-- The profile memory is in canonical form. -/
def Memory.wf (mem : List Host.Cell) : Bool := memoryFormFrom 0 mem

end Sys2Proof.Machine
end

