-- ==== Sys2Proof/Machine/Flags.lean ====
section
/-! DEFINITION. Every mark, count and status the part computes from what it holds: holding and latch-engaged (R15, R16), group
membership (R10), the drive status (R118), the attention condition (R144). -/

namespace Sys2Proof.Machine

/-- R16: holding. -/
def Station.holding (st : Station) : Bool := st.record.state = .held || st.record.state = .tending

/-- R15: latch-engaged. -/
def Station.engaged (st : Station) : Bool :=
  match st.record.state with
  | .seating => true
  | .takeup => true
  | .held => true
  | .tending => true
  | .easing => true
  | .releasing => true
  | .faulted => st.latchReading ≠ .open
  | .outOfService => false
  | .stowed => false
  | .payout => false
  | .slack => false
  | .presented => false
  | .rewinding => false

/-- R10: the enabled group that contains station `i`, or none while it is ungrouped. -/
def Params.groupOf (p : Params) (i : StationNo) : Option GroupNo :=
  allGroups.find? fun g => p.groups[g].contains i.val

/-- R10: the group of station `i`. -/
def State.groupOf (s : State) (i : StationNo) : Option GroupNo := s.params.groupOf i

/-- How many stations satisfy a test. -/
def State.countStations (s : State) (test : StationNo → Station → Bool) : Nat :=
  (allStations.filter fun i => test i (s.st i)).length

/-- R16: the holding count of a group; 0 for a disabled group, which contains no station. -/
def State.holdingCount (s : State) (g : GroupNo) : Nat :=
  s.countStations fun i st => (s.group g).contains i.val && st.holding

/-- R16: the berth holding count. -/
def State.berthHolding (s : State) : Nat := s.countStations fun _ st => st.holding

/-- R15: the latch-engaged count. -/
def State.engagedCount (s : State) : Nat := s.countStations fun _ st => st.engaged

/-- R15: whether any station of the group is latch-engaged. -/
def State.groupEngaged (s : State) (g : GroupNo) : Bool :=
  allStations.any fun i => (s.group g).contains i.val && (s.st i).engaged

/-- R15: whether any ungrouped station is latch-engaged. -/
def State.ungroupedEngaged (s : State) : Bool :=
  allStations.any fun i => (s.groupOf i).isNone && (s.st i).engaged

/-- R163, R170: some station is settling. -/
def State.anySettling (s : State) : Bool := allStations.any fun i => (s.st i).settling

/-- R27: the drive status of a station, which mirrors its standing with the Arbiter (R118). -/
inductive DriveStatus where
  | idle
  | queued (cls : Nat)
  | granted
  | holdoff
  deriving DecidableEq, Repr

/-- The Arbiter's holder entry of a station. -/
def State.holderOf (s : State) (i : StationNo) : Option Holder := s.holders.find? fun h => h.station = i

/-- The Arbiter's queue entry of a station. -/
def State.queuedAs (s : State) (i : StationNo) : Option QueueEntry := s.queue.find? fun e => e.station = i

/-- The station serves a holdoff. -/
def State.inHoldoff (s : State) (i : StationNo) : Bool := s.holdoffs.any fun h => h.station = i

/-- R118: the drive status. -/
def State.driveStatus (s : State) (i : StationNo) : DriveStatus :=
  match s.holderOf i with
  | some _ => .granted
  | none =>
    match s.queuedAs i with
    | some e => .queued e.cls
    | none => if s.inHoldoff i then .holdoff else .idle

/-- R144: the attention output of a queue at a threshold. -/
def attentionOf (threshold : Nat) (entries : List AlertEntry) : Bool := entries.any fun e => threshold ≤ e.level

end Sys2Proof.Machine
end

