-- ==== Sys2Proof/Machine/Alerts.lean ====
section
/-! DEFINITION. The Alert Unit: codes, routing, merging, insertion and dropping (R138 to R147). -/

namespace Sys2Proof.Machine

/-- The codes of R138. -/
def AlertKind.code : AlertKind → Nat
  | .opDone => 0
  | .opFailed => 1
  | .fault => 2
  | .overload => 3
  | .lengthLimit => 4
  | .faultCleared => 5
  | .phase => 6
  | .planShort => 7
  | .surgeStart => 8
  | .surgeEnd => 9
  | .eqrArming => 10
  | .eqrFired => 11
  | .eqrAbandoned => 12
  | .quayStop => 13
  | .profile => 14
  | .preempted => 15

/-- The codes of R138 are 0..15, the rows of the routing table. -/
theorem AlertKind.code_lt (k : AlertKind) : k.code < 16 := by cases k <;> decide

/-- The subject coded as a target (R159). -/
def Subject.code : Subject → Nat
  | .station i => i.val
  | .group g => 16 + g.val
  | .berth => 32

/-- An alert as a block raises it (R138). -/
structure Alert where
  kind : AlertKind
  subject : Subject
  detail : Nat
  deriving DecidableEq, Repr

/-- R138: equality of alerts; level and merge count play no part. -/
def AlertEntry.equals (e : AlertEntry) (a : Alert) : Bool := e.kind = a.kind && e.subject = a.subject && e.detail = a.detail

/-- R141: `e` stands before `f` in a queue: the higher level first, then the earlier rank. -/
def AlertEntry.before (e f : AlertEntry) : Bool := f.level < e.level || (e.level = f.level && e.rank < f.rank)

/-- Put an entry in its place of the queue order (R141). -/
def placeEntry (e : AlertEntry) : List AlertEntry → List AlertEntry
  | [] => [e]
  | f :: rest => if e.before f then e :: f :: rest else f :: placeEntry e rest

/-- R142: the entry after an equal alert was merged into it. -/
def AlertEntry.merge (e : AlertEntry) (level : Nat) : AlertEntry :=
  { e with mergeCount := min 255 (e.mergeCount + 1), level := max e.level level }

/-- The capacity of a queue (R141). -/
def queueCapacity : Nat := 32

/-- R143: a new entry. -/
def newEntry (a : Alert) (level rank : Nat) : AlertEntry :=
  { kind := a.kind, subject := a.subject, detail := a.detail, level := level, mergeCount := 1, rank := rank }

/-- R142, R143: an alert is offered to a queue at a level. In a full queue the entry to drop is the last in queue order: the
lowest level, and in it the latest rank. -/
def Mailbox.offer (q : Mailbox) (a : Alert) (level : Nat) : Mailbox :=
  match q.entries.find? fun e => e.equals a with
  | some e => { q with entries := placeEntry (e.merge level) (q.entries.filter fun f => !f.equals a) }
  | none =>
    let inserted (kept : List AlertEntry) : Mailbox :=
      { q with entries := placeEntry (newEntry a level q.nextRank) kept, nextRank := q.nextRank + 1 }
    if q.entries.length < queueCapacity then inserted q.entries
    else
      match q.entries.getLast? with
      | none => { q with lost := true }
      | some lowest =>
        if lowest.level < level then { inserted q.entries.dropLast with lost := true } else { q with lost := true }

/-- R144: the attention output evaluated again. -/
def Mailbox.evaluate (q : Mailbox) (threshold : Nat) : Mailbox :=
  { q with attention := attentionOf threshold q.entries }

/-- The attention threshold of a master (R144, berth items 10..12). -/
def State.threshold (s : State) (m : Master) : Nat := s.berth.attention.get m

/-- R140: the level of an alert for a master: the routed level, raised to 1 from 0 for the owner of an operation that ends. -/
def alertLevel (routing : Vector (PerMaster Nat) 16) (a : Alert) (owner : Option Master) (m : Master) : Nat :=
  let routed := (routing[a.kind.code]'(AlertKind.code_lt a.kind)).get m
  if (a.kind = .opDone || a.kind = .opFailed) && owner = some m then max 1 routed else routed

/-- R140: a master's queue after an alert was offered to it at its level; at level 0 it is not offered. -/
def State.offered (s : State) (routing : Vector (PerMaster Nat) 16) (a : Alert) (owner : Option Master) (m : Master) : Mailbox :=
  let level := alertLevel routing a owner m
  if level = 0 then s.mailboxes.get m else ((s.mailboxes.get m).offer a level).evaluate (s.threshold m)

/-- R140: an alert offered to the three queues, by a routing table. -/
def State.raiseBy (s : State) (routing : Vector (PerMaster Nat) 16) (a : Alert) (owner : Option Master) : State :=
  { s with
    mailboxes :=
      { shore := s.offered routing a owner .shore
        vessel := s.offered routing a owner .vessel
        quay := s.offered routing a owner .quay } }

/-- R138, R140: a block raises an alert that has no owner. -/
def State.raise (s : State) (kind : AlertKind) (subject : Subject) (detail : Nat) : State :=
  s.raiseBy s.params.routing ⟨kind, subject, detail⟩ none

/-- R30, R140: the Sequencer raises OP_DONE or OP_FAILED with the operation's owner. -/
def State.raiseOwned (s : State) (kind : AlertKind) (subject : Subject) (detail : Nat) (owner : Option Master) : State :=
  s.raiseBy s.params.routing ⟨kind, subject, detail⟩ owner

end Sys2Proof.Machine
end

