-- ==== Sys2Proof/Machine/Arbiter.lean ====
section
/-! DEFINITION. The brake handshake of a station port (R69 to R74) and the Drive Arbiter: queue, grants, returns, preemption,
holdoff, grant limit, quay stop (R107 to R120). -/

namespace Sys2Proof.Machine

/-! ### The port's commands -/

/-- R63: set the drive and brake commands; a change makes a command set due. -/
def Port.command (p : Port) (drive : DriveCommand) (brake : Brake) : Port :=
  { p with drive := drive, brake := brake, sendDue := p.sendDue || p.drive ≠ drive || p.brake ≠ brake }

/-- R71: a grant reaches the port, which begins the brake handshake. -/
def Port.beginFreeing (timeout : Nat) (p : Port) : Port :=
  { p.command .hold .free with handshake := .freeing, brakeTimer := .step timeout }

/-- R73: motion ends; a port in SETTING or REST stays as it is. -/
def Port.endMotion (timeout : Nat) (p : Port) : Port :=
  match p.handshake with
  | .freeing => { p.command .hold .set with handshake := .setting, brakeTimer := .step timeout, stallTimer := none }
  | .driving => { p.command .hold .set with handshake := .setting, brakeTimer := .step timeout, stallTimer := none }
  | .setting => p
  | .rest => p

/-- R69: REST at once, with the drive OFF and the brake SET. A brake that was FREE starts a set watch; where it was SET, a handshake
step of the brake timer is stopped and a set watch runs on. At a berth reset R59's table leaves the brake timer unchanged where the
brake was SET; the model stops a handshake step there too, as R69 and R70's row REST do (DESIGN CHOICE, log 34). -/
def Port.makeSafe (timeout : Nat) (p : Port) : Port :=
  { p.command .off .set with
    handshake := .rest
    stallTimer := none
    brakeTimer :=
      match p.brake, p.brakeTimer with
      | .free, _ => .watch timeout
      | .set, .step _ => .stopped
      | .set, t => t }

/-- R67, R72: a driving port takes the direction its station's state names; a change of direction restarts the stall timer. -/
def Port.steer (interval : Nat) (d : Direction) (p : Port) : Port :=
  if p.handshake = .driving && p.drive ≠ d.drive then { p.command d.drive p.brake with stallTimer := some interval } else p

/-- R69 on station `i`, at the brake timeout in force. -/
def State.portSafe (s : State) (i : StationNo) : State := s.modPort i (Port.makeSafe s.berth.brakeTimeout)

/-! ### Grants and preemption -/

/-- R109: the three conditions of a grant. -/
def State.canGrant (s : State) : Bool := !s.quayStop && !s.queue.isEmpty && s.holders.length < s.berth.grantLimit

/-- R109: the head of the queue becomes the last holder. -/
def State.grantHead (s : State) : State :=
  match s.queue with
  | [] => s
  | e :: rest =>
    let holder : Holder := { station := e.station, cls := e.cls, condition := .active, grantTime := s.nextGrant }
    { s with queue := rest, holders := s.holders ++ [holder], nextGrant := s.nextGrant + 1 }.modPort e.station
      (Port.beginFreeing s.berth.brakeTimeout)

/-- R109: grants are given for as long as the conditions hold, at most `n` of them. -/
def giveGrants : Nat → State → State
  | 0, s => s
  | n + 1, s => if s.canGrant then giveGrants n s.grantHead else s

/-- A holder that the Arbiter may stop. -/
def Holder.active (h : Holder) : Bool := h.condition = .active

/-- The later granted of two holders. -/
def laterGranted (best : Option Holder) (h : Holder) : Option Holder :=
  match best with
  | none => some h
  | some b => if b.grantTime < h.grantTime then some h else some b

/-- The holder with the latest grant time. -/
def latestGranted (hs : List Holder) : Option Holder := hs.foldl laterGranted none

/-- R107: the holder entry of station `i` marked returning. -/
def markReturning (i : StationNo) (after : AfterReturn) (h : Holder) : Holder :=
  if h.station = i then { h with condition := .returning after } else h

/-- R111: the holder entry of station `i` with a new class recorded. -/
def recordClass (i : StationNo) (cls : Nat) (h : Holder) : Holder := if h.station = i then { h with cls := cls } else h

/-- R73, R107: the holder of station `i` becomes returning and its port runs the end-of-motion handshake. -/
def State.stopHolder (s : State) (i : StationNo) (after : AfterReturn) : State :=
  { s with holders := s.holders.map (markReturning i after) }.modPort i (Port.endMotion s.berth.brakeTimeout)

/-- R112: the active class-2 holder with the latest grant time. -/
def State.preemptionVictim (s : State) : Option Holder :=
  latestGranted (s.holders.filter fun h => h.active && h.cls = 2)

/-- R112: the first three conditions of preemption. -/
def State.preemptionDue (s : State) : Bool :=
  !s.quayStop && s.berth.grantLimit ≤ s.holders.length
    && (s.holders.filter fun h => !h.active).length < (s.queue.filter fun e => e.cls = 0).length

/-- R112: one preemption, with its alert; none when the condition does not hold. -/
def State.preemptOne (s : State) : Option State :=
  match s.preemptionDue, s.preemptionVictim, s.queue.head? with
  | true, some h, some e => some ((s.stopHolder h.station .preempted).raise .preempted (.station h.station) e.station.val)
  | _, _, _ => none

/-- R112: preemptions are made while the condition holds, at most `n` of them. -/
def givePreemptions : Nat → State → State
  | 0, s => s
  | n + 1, s =>
    match s.preemptOne with
    | some s' => givePreemptions n s'
    | none => s

/-- R109, R112: the Arbiter's tests after an event that can change their conditions: first grants, then preemption (R117). -/
def State.arbiterTest (s : State) : State :=
  let granted := giveGrants s.queue.length s
  givePreemptions granted.holders.length granted

/-! ### The queue -/

/-- R108: put an entry at the tail of the back part of its class. -/
def enqueueBack (e : QueueEntry) : List QueueEntry → List QueueEntry
  | [] => [e]
  | f :: rest => if e.cls < f.cls then e :: f :: rest else f :: enqueueBack e rest

/-- R108, R115: an entry of the front part, given-up grant time `t`, stands before `f`. -/
def frontBefore (cls t : Nat) (f : QueueEntry) : Bool :=
  cls < f.cls || (cls = f.cls && match f.front with | none => true | some t' => t < t')

/-- R115: put an entry in the front part of its class, at the place its grant time gives it. -/
def enqueueFront (i : StationNo) (cls t : Nat) : List QueueEntry → List QueueEntry
  | [] => [⟨i, cls, some t⟩]
  | f :: rest => if frontBefore cls t f then ⟨i, cls, some t⟩ :: f :: rest else f :: enqueueFront i cls t rest

/-- R108: a station joins the queue at the tail of the back part of a class. -/
def State.joinBack (s : State) (i : StationNo) (cls : Nat) : State :=
  { s with queue := enqueueBack ⟨i, cls, none⟩ s.queue }

/-- A queue without the entry of a station. -/
def withoutStation (q : List QueueEntry) (i : StationNo) : List QueueEntry := q.filter fun e => e.station ≠ i

/-- The station is taken out of the queue and the holdoff list. -/
def State.dequeue (s : State) (i : StationNo) : State :=
  { s with queue := withoutStation s.queue i, holdoffs := s.holdoffs.filter fun h => h.station ≠ i }

/-- The station is taken out of the holder list. -/
def State.dropHolder (s : State) (i : StationNo) : State :=
  { s with holders := s.holders.filter fun h => h.station ≠ i }

/-! ### Requests, withdrawals and returns -/

/-- R111: a request on entry to a drive state. A returning holder makes it when the return has finished (R27). -/
def State.requestGrant (s : State) (i : StationNo) (cls : Nat) : State :=
  match s.holderOf i with
  | some _ => s
  | none => (s.joinBack i cls).arbiterTest

/-- R111: a withdrawal on exit to a state without a drive request. -/
def State.withdraw (s : State) (i : StationNo) : State :=
  match s.holderOf i with
  | some _ => (s.stopHolder i .ended).arbiterTest
  | none => s.dequeue i

/-- R108, R111: the class of a station's request after a change between two drive states. An unchanged class keeps the place. -/
def State.reclass (s : State) (i : StationNo) (cls : Nat) : State :=
  match s.holderOf i with
  | some h =>
    if h.cls = cls then s
    else { s with holders := s.holders.map (recordClass i cls) }.arbiterTest
  | none =>
    match s.queuedAs i with
    | some e => if e.cls = cls then s else ((s.dequeue i).joinBack i cls).arbiterTest
    | none => s

/-- R110, R111: a removal at once, without the handshake: at a fault, at the beginning of reconstruction, at the firing. -/
def State.removeAtOnce (s : State) (i : StationNo) : State :=
  match s.holderOf i with
  | some _ => ((s.dropHolder i).dequeue i).arbiterTest
  | none => s.dequeue i

/-- R113: the holdoff of a preempted station whose grant has returned. -/
def State.beginHoldoff (s : State) (i : StationNo) : State :=
  if s.berth.preemptHoldoff = 0 then s.joinBack i 2
  else { s with holdoffs := s.holdoffs ++ [⟨i, s.berth.preemptHoldoff⟩] }

/-- R110: what follows the return, by the way the holder came to return and by the station's present request. -/
def State.afterReturn (s : State) (i : StationNo) (h : Holder) : State :=
  match (s.st i).request with
  | none => s
  | some (cls, _) =>
    match h.condition with
    | .returning .preempted => s.beginHoldoff i
    | .returning .requeue => { s with queue := enqueueFront i cls h.grantTime s.queue }
    | .returning .ended => s.joinBack i cls
    | .active => s.joinBack i cls

/-- R110: the port hands the grant back at the end of the handshake. -/
def State.returnGrant (s : State) (i : StationNo) : State :=
  match s.holderOf i with
  | none => s
  | some h => ((s.dropHolder i).afterReturn i h).arbiterTest

/-! ### The grant limit and the quay stop -/

/-- R114: the order in which surplus holders are stopped: class 2 before 1 before 0, the latest grant first. -/
def State.surplusVictim (s : State) : Option Holder :=
  let active := s.holders.filter Holder.active
  match latestGranted (active.filter fun h => h.cls = 2) with
  | some h => some h
  | none =>
    match latestGranted (active.filter fun h => h.cls = 1) with
    | some h => some h
    | none => latestGranted active

/-- R114: stop `n` active holders, marked for re-queuing. -/
def stopSurplus : Nat → State → State
  | 0, s => s
  | n + 1, s =>
    match s.surplusVictim with
    | some h => stopSurplus n (s.stopHolder h.station .requeue)
    | none => s

/-- R114: the Arbiter takes up the grant limit now in force. -/
def State.takeUpLimit (s : State) : State :=
  (stopSurplus ((s.holders.filter Holder.active).length - s.berth.grantLimit) s).arbiterTest

/-- R116: stop every active holder in a list, marked for re-queuing. -/
def stopHolders : List Holder → State → State
  | [], s => s
  | h :: rest, s => stopHolders rest (if h.active then s.stopHolder h.station .requeue else s)

/-- R113: the holdoff timer of a station runs out. -/
def State.endHoldoff (s : State) (i : StationNo) : State :=
  { s with holdoffs := s.holdoffs.filter fun h => h.station ≠ i }.joinBack i 2 |>.arbiterTest

end Sys2Proof.Machine
end

