-- ==== Sys2Proof/Machine/Plan.lean ====
section
/-! DEFINITION. The Berth Plan Unit: changes of phase, state notices, PLAN_SHORT, the phase gating of station orders and the
release gate (R1 to R9, R15 to R21). -/

namespace Sys2Proof.Machine

/-- The codes of R1. -/
def Phase.code : Phase → Nat
  | .starting => 0
  | .vacant => 1
  | .alongside => 2
  | .moored => 3
  | .unmooring => 4
  | .emergency => 5

/-- R2: the phase becomes `p` with its PHASE alert; the value it already holds is no change. The short flags are cleared on
each entry to MOORED and to STARTING (R17). -/
def State.enterPhase (s : State) (p : Phase) : State :=
  if s.phase = p then s
  else
    let flags := if p = .moored || p = .starting then Vector.replicate 6 false else s.shortFlags
    { s with phase := p, shortFlags := flags }.raise .phase .berth p.code

/-- R5: the MOORED condition. -/
def State.mooredCondition (s : State) : Bool :=
  0 < s.berthHolding
    && allGroups.all fun g => !((s.group g).enabled && 0 < (s.group g).minimum) || (s.group g).minimum ≤ s.holdingCount g

/-- R5: evaluated on entry to ALONGSIDE and on a change of a holding count in ALONGSIDE. -/
def State.evaluateMoored (s : State) : State :=
  if s.phase = .alongside && s.mooredCondition then s.enterPhase .moored else s

/-- R6: evaluated on entry to UNMOORING and on a change of the latch-engaged count in UNMOORING. -/
def State.evaluateVacant (s : State) : State :=
  if s.phase = .unmooring && s.engagedCount = 0 then s.enterPhase .vacant else s

/-- R17: a fall of a group's holding count in MOORED. -/
def State.planFall (s : State) (g : GroupNo) : State :=
  if s.holdingCount g < (s.group g).minimum && !s.shortFlags[g] then
    { s with shortFlags := setFlag s.shortFlags g true }.raise .planShort (.group g) (s.holdingCount g)
  else s

/-- R17: a rise of a group's holding count in MOORED. -/
def State.planRise (s : State) (g : GroupNo) : State :=
  if (s.group g).minimum ≤ s.holdingCount g then { s with shortFlags := setFlag s.shortFlags g false } else s

/-- R16, R17: what the Berth Plan Unit does in MOORED at a notice of station `i`. -/
def State.noticeMoored (s : State) (i : StationNo) (wasHolding : Bool) : State :=
  match s.groupOf i with
  | none => s
  | some g =>
    match wasHolding, (s.st i).holding with
    | true, false => s.planFall g
    | false, true => s.planRise g
    | true, true => s
    | false, false => s

/-- R16, R24: a state notice of station `i`, with the marks the station had before. -/
def State.notice (s : State) (i : StationNo) (wasHolding wasEngaged : Bool) : State :=
  match s.phase with
  | .alongside => if wasHolding ≠ (s.st i).holding then s.evaluateMoored else s
  | .moored => s.noticeMoored i wasHolding
  | .unmooring => if wasEngaged ≠ (s.st i).engaged then s.evaluateVacant else s
  | .starting => s
  | .vacant => s
  | .emergency => s

/-- R24: the notice of station `i` after the work that took the part from `before` to `s`. -/
def State.noticeFrom (s : State) (before : State) (i : StationNo) : State :=
  s.notice i (before.st i).holding (before.st i).engaged

/-- R3: the computed phase. -/
def State.computedPhase (s : State) : Phase :=
  if s.engagedCount = 0 then .vacant else if s.mooredCondition then .moored else .alongside

/-- R10, R20: the release rank of a station: its group's, or 0. -/
def State.rankOf (s : State) (i : StationNo) : Nat :=
  match s.groupOf i with
  | some g => (s.group g).rank
  | none => 0

/-- R19: the minimum check of the release gate; true refuses PLAN_MINIMUM. -/
def State.belowMinimum (s : State) (i : StationNo) : Bool :=
  (s.st i).holding
    && match s.groupOf i with
       | some g => s.holdingCount g - 1 < (s.group g).minimum
       | none => false

/-- R20: the rank check of the release gate; true refuses SEQUENCE. -/
def State.outOfSequence (s : State) (i : StationNo) : Bool :=
  (allGroups.any fun g => (s.group g).enabled && (s.group g).rank < s.rankOf i && s.groupEngaged g)
    || (0 < s.rankOf i && s.ungroupedEngaged)

end Sys2Proof.Machine
end

