-- ==== Sys2Proof/Machine/Sequencer.lean ====
section
/-! DEFINITION. The Station Sequencer's shared operations: change of state with its drive request (R27), the latch command (R26),
the end of an operation (R29, R30), entry to FAULTED (R48, R49, R69), and reconstruction (R53 to R57). -/

namespace Sys2Proof.Machine

/-- R25, R93, R100: a new state with its tending direction and class; the dwell counters are 0 at every entry to HELD. -/
def Station.enter (state : LineState) (tending : Option Tending) (st : Station) : Station :=
  { st with
    record := { st.record with state := state, tending := tending }
    tension := if state = .held then { st.tension with hi := 0, lo := 0 } else st.tension }

/-- R27: a station changes its state, and its request to the Arbiter and the direction of its drive follow. The state notice
(R24) is sent apart, by `noticeFrom`, when the Sequencer's work on the event is done (log 6). -/
def State.enterState (s : State) (i : StationNo) (state : LineState) (tending : Option Tending) : State :=
  let entered := s.modSt i (Station.enter state tending)
  match (s.st i).request, (entered.st i).request with
  | none, none => entered
  | none, some (cls, _) => entered.requestGrant i cls
  | some _, none => entered.withdraw i
  | some _, some (cls, d) => (entered.modPort i (Port.steer s.berth.stallInterval d)).reclass i cls

/-- R26, R63: the latch command; a change makes a command set due. -/
def State.commandLatch (s : State) (i : StationNo) (c : LatchCommand) : State :=
  s.modSt i fun st =>
    { st with
      record := { st.record with latchCommand := c }
      port := { st.port with sendDue := st.port.sendDue || st.record.latchCommand ≠ c } }

/-- The seat and latch-open timers are stopped (R48, R53, R58). -/
def Record.stopTimers (r : Record) : Record := { r with seatTimer := none, latchOpenTimer := none }

/-- R26, R36, R38, R40: the latch is commanded OPEN, the latch-open timer starts at the timeout in force, and the station goes
to RELEASING. -/
def State.enterReleasing (s : State) (i : StationNo) : State :=
  ((s.commandLatch i .open).modRecord i fun r =>
    { r with seatTimer := none, latchOpenTimer := some s.berth.latchOpenTimeout }).enterState i .releasing none

/-- R29: the operation, owner and run-out target become absent. -/
def Record.clearOperation (r : Record) : Record := { r with operation := none, owner := none, runOutTarget := none }

/-- R29, R30: the operation in flight on a station completes, or fails for a reason; nothing happens when none is in flight. -/
def State.endOperation (s : State) (i : StationNo) (failure : Option FailReason) : State :=
  match (s.st i).record.operation with
  | none => s
  | some op =>
    let ended := s.modRecord i Record.clearOperation
    match failure with
    | none => ended.raiseOwned .opDone (.station i) op.code (s.st i).record.owner
    | some why => ended.raiseOwned .opFailed (.station i) why.code (s.st i).record.owner

/-- R29: an accepted operation order; an operation still in flight ends FAILED(CANCELLED) first, so before the Arbiter hears of
the new state, and that OP_FAILED stands before a PREEMPTED of the same event (DESIGN CHOICE, log 6). -/
def State.startOperation (s : State) (i : StationNo) (op : Operation) (m : Master) (target : Option Nat) : State :=
  (s.endOperation i (some .cancelled)).modRecord i fun r =>
    { r with operation := some op, owner := some m, runOutTarget := target }

/-- R48, R69: entry to FAULTED, in the order of R48. The grant returns at its step 1, and the Arbiter makes its tests on that
return at once, so a PREEMPTED that has become due stands before this station's OP_FAILED and FAULT, and the notice's alerts
after them: R147 leaves the order of different blocks' alerts open (DESIGN CHOICE, log 6). -/
def State.enterFaulted (s : State) (i : StationNo) (cause : FaultCause) : State :=
  let stopped :=
    ((s.portSafe i).modPort i fun p => { p with reportSinceFault := false, sendDue := true }).removeAtOnce i
  let failed := (stopped.modRecord i Record.stopTimers).endOperation i (some .fault)
  let written := failed.modRecord i fun r =>
    { r with
      state := .faulted, recon := none, tending := none, faultCause := some cause, faultCount := min 255 (r.faultCount + 1) }
  (written.raise .fault (.station i) cause.code).noticeFrom s i

/-- R49, R55: the stations on which a finding is acted on. -/
def Station.actsOnFinding (st : Station) : Bool :=
  st.settling || (st.record.state ≠ .faulted && st.record.state ≠ .outOfService)

/-- R49: a finding handed to the Sequencer between reports. -/
def State.finding (s : State) (i : StationNo) (cause : FaultCause) : State :=
  if (s.st i).actsOnFinding then s.enterFaulted i cause else s

/-- R53, R69, R81: the beginning of reconstruction. -/
def State.beginReconstruction (s : State) (i : StationNo) (why : Reconstruction) : State :=
  let safe :=
    ((s.portSafe i).modPort i fun p =>
      { p with reportLossTimer := some s.berth.reportLossInterval, sendDue := true }).removeAtOnce i
  safe.modSt i fun st =>
    { st with
      record := { st.record.stopTimers with recon := some why }
      tension := { st.tension with seedPending := true } }

/-- R54: the state a reconstruction report shows, applied in the order of its table. -/
def State.settleBy (s : State) (i : StationNo) (r : Readings) : State :=
  if r.endStop then (s.modRecord i fun rec => { rec with payoutLength := some 0 }).enterState i .stowed none
  else
    match r.latch with
    | .closed => s.enterState i .held none
    | .open => s.enterState i .slack none
    | .moving => s.enterReleasing i

/-- R57: FAULT_CLEARED for a station that began its reconstruction from FAULTED. -/
def State.raiseCleared (s : State) (i : StationNo) (why : Option Reconstruction) : State :=
  match why, (s.st i).record.faultCause with
  | some .clearFault, some cause => s.raise .faultCleared (.station i) cause.code
  | _, _ => s

/-- R54, R57: a settling station is reconstructed from its report. -/
def State.reconstruct (s : State) (i : StationNo) (r : Readings) : State :=
  let settled := s.modRecord i fun rec => { rec with recon := none, tendingHold := false }
  ((settled.settleBy i r).raiseCleared i (s.st i).record.recon).noticeFrom s i

end Sys2Proof.Machine
end

