-- ==== Sys2Proof/Machine/TensionUnit.lean ====
section
/-! DEFINITION. The Tension Unit: the five stages from sample to filtered tension (R78 to R87) and the surge timer (R103 to
R105). -/

namespace Sys2Proof.Machine

/-- R79: the raw sample scaled to a tension, before limiting. -/
def scaleSample (c : Calibration) (sample : Nat) : Nat :=
  if sample ≤ c.zeroOffset then 0 else (convergent (((sample - c.zeroOffset) * c.gain : Nat) : Int) 4096).toNat

/-- The highest tension (00_scope.md, Units and ranges). -/
def maxTension : Nat := 4000

/-- R80: stage 2, the limit and the saturation run. -/
def Tension.limit (t : Nat) (x : Tension) : Tension :=
  if maxTension < t then
    { x with scaled := some maxTension, saturated := true, saturationRun := min 16 (x.saturationRun + 1) }
  else { x with scaled := some t, saturated := false, saturationRun := 0 }

/-- R80: the limited tension. -/
def limitTension (t : Nat) : Nat := min maxTension t

/-- R83: stage 4 on a sample that is not a seeding sample. -/
def filterStep (shift f t : Nat) : Nat :=
  if shift = 0 then t else (((f : Int) + convergent ((t : Int) - (f : Int)) (2 ^ shift)).toNat)

/-- The capacity of the history ring (R87). -/
def ringCapacity : Nat := 16

/-- R87: stage 5. -/
def pushHistory (ring : List Nat) (f : Nat) : List Nat :=
  if ring.length < ringCapacity then ring ++ [f] else ring.tail ++ [f]

/-- R81, R83: the new filtered tension; a seeding sample takes `t`. A filter that holds no value yet takes `t` too: its sample
is then always a seeding sample. -/
def Tension.filterTo (shift t : Nat) (x : Tension) : Nat :=
  match x.seedPending, x.filtered with
  | false, some f => filterStep shift f t
  | _, _ => t

/-- R81, R83, R87: stages 4 and 5. -/
def Tension.filterStage (shift t : Nat) (x : Tension) : Tension :=
  let f := x.filterTo shift t
  { x with filtered := some f, seedPending := false, history := pushHistory x.history f }

/-- R82: the surge test of a sample against the filtered tension before stage 4. -/
def Tension.surges (step t : Nat) (x : Tension) : Bool :=
  match x.seedPending, x.filtered with
  | false, some f => 0 < step && step ≤ ((t : Int) - (f : Int)).natAbs
  | _, _ => false

/-- R105: the start of the surge timer takes a station in TENDING HAUL to HELD. -/
def State.endHaul (s : State) (i : StationNo) : State :=
  if (s.st i).record.state = .tending && (s.st i).record.tending.map Tending.direction = some .haul then
    (s.enterState i .held none).noticeFrom s i
  else s

/-- R105 for every station of a list. -/
def endHauls : List StationNo → State → State
  | [], s => s
  | i :: rest, s => endHauls rest (s.endHaul i)

/-- R103: a surge detection on station `i` starts or reloads the berth surge timer. R105 has each Sequencer end its haul before
its next order or report, and the detecting one before the keeping acts. The start ends every haul at once, that of `i` itself
here at stage 3 of its report, so before the brake test of step 7: SET on that report finds the port in SETTING and returns the
grant (DESIGN CHOICE, log 32). -/
def State.surgeDetected (s : State) (i : StationNo) : State :=
  match s.surgeTimer with
  | some _ => { s with surgeTimer := some s.berth.surgeHold }
  | none => endHauls allStations ({ s with surgeTimer := some s.berth.surgeHold }.raise .surgeStart .berth i.val)

/-- R78: the limited tension of a station's most recent sample. -/
def State.sampleTension (s : State) (i : StationNo) (r : Readings) : Nat := scaleSample (s.calibration i) r.loadSample.toNat

/-- R78: the five stages on one report. A surge that stage 3 detects has ended the station's own haul when `State.takeReport`
makes its brake test (DESIGN CHOICE, log 32). -/
def State.computeTension (s : State) (i : StationNo) (r : Readings) : State :=
  let t := s.sampleTension i r
  let limited := s.modTension i (Tension.limit t)
  let tested :=
    if (limited.st i).tension.surges s.berth.surgeStep (limitTension t) then limited.surgeDetected i else limited
  tested.modTension i (Tension.filterStage (s.calibration i).filterShift (limitTension t))

/-- R80: a saturation run standing at 16 after a saturated sample is a LOAD_RANGE finding. -/
def Station.loadRange (st : Station) : Bool := st.tension.saturated && 16 ≤ st.tension.saturationRun

/-! ### Tension keeping -/

/-- R95, R97: whether the payout length leaves room to pay: unknown, or known and below max payout. -/
def Station.mayPay (st : Station) (maxPayout : Nat) : Bool :=
  match st.record.payoutLength with
  | none => true
  | some n => n < maxPayout

/-- R27, R94: a change of state the keeping asks for, with its notice. The keeping steps raise their own alerts after it, so that a
PREEMPTED that its class-0 request causes stands before the OVERLOAD of the same trip (DESIGN CHOICE, log 6). -/
def State.keepTo (s : State) (i : StationNo) (state : LineState) (tending : Option Tending) : State :=
  (s.enterState i state tending).noticeFrom s i

/-- R101: OVERLOAD on a station. -/
def State.overload (s : State) (i : StationNo) (detail : Nat) : State := s.raise .overload (.station i) detail

/-- R101: LENGTH_LIMIT on a station. -/
def State.lengthLimit (s : State) (i : StationNo) (detail : Nat) : State := s.raise .lengthLimit (.station i) detail

/-- R92: at each keeping step in HELD a dwell counter above the dwell in force is first lowered to it. -/
def Tension.lowerCounters (dwell : Nat) (x : Tension) : Tension := { x with hi := min x.hi dwell, lo := min x.lo dwell }

/-- R96: dwell counting. -/
def Tension.countDwell (b : Band) (surging : Bool) (f : Nat) (x : Tension) : Tension :=
  if b.high < f then { x with hi := min b.dwell (x.hi + 1), lo := 0 }
  else if f < b.low then
    if surging then { x with hi := 0 } else { x with hi := 0, lo := min b.dwell (x.lo + 1) }
  else { x with hi := 0, lo := 0 }

/-- R97: a counter that has reached the dwell starts tending. -/
def State.testDwell (s : State) (i : StationNo) (b : Band) : State :=
  if b.dwell ≤ (s.st i).tension.hi then
    if (s.st i).mayPay b.maxPayout then s.keepTo i .tending (some ⟨.pay, 1⟩)
    else (s.modTension i fun x => { x with hi := b.dwell - 1 }).lengthLimit i 1
  else if b.dwell ≤ (s.st i).tension.lo then
    if s.surgeTimer.isNone then s.keepTo i .tending (some ⟨.haul, 1⟩) else s
  else s

/-- R95, R96, R97: the keeping step in HELD with the tending hold clear. PREEMPTED stands before OVERLOAD (log 6). -/
def State.keepHeld (s : State) (i : StationNo) (f : Nat) : State :=
  let b := s.band i
  let lowered := s.modTension i (Tension.lowerCounters b.dwell)
  if b.trip ≤ f then
    if (s.st i).mayPay b.maxPayout then (lowered.keepTo i .tending (some ⟨.pay, 0⟩)).overload i 1
    else (lowered.overload i 4).lengthLimit i 3
  else (lowered.modTension i (Tension.countDwell b s.surgeTimer.isSome f)).testDwell i b

/-- R98: the keeping step in TENDING PAY. PREEMPTED stands before OVERLOAD (log 6). -/
def State.keepPay (s : State) (i : StationNo) (cls f : Nat) : State :=
  let b := s.band i
  if !(s.st i).mayPay b.maxPayout then
    let held := s.keepTo i .held none
    (if b.trip ≤ f then held.overload i 4 else held).lengthLimit i 2
  else if b.trip ≤ f then
    if cls = 0 then s else (s.keepTo i .tending (some ⟨.pay, 0⟩)).overload i 2
  else if f ≤ b.target + b.hysteresis then s.keepTo i .held none
  else s

/-- R99: the keeping step in TENDING HAUL. PREEMPTED stands before OVERLOAD (log 6). -/
def State.keepHaul (s : State) (i : StationNo) (f : Nat) : State :=
  let b := s.band i
  if b.trip ≤ f then
    if (s.st i).mayPay b.maxPayout then (s.keepTo i .tending (some ⟨.pay, 0⟩)).overload i 3
    else ((s.keepTo i .held none).overload i 4).lengthLimit i 3
  else if b.target - b.hysteresis ≤ f then s.keepTo i .held none
  else s

/-- R94: step 4 of R28. No test is made on a filtered tension that is absent (R85). -/
def State.keepTension (s : State) (i : StationNo) : State :=
  match (s.st i).tension.filtered, (s.st i).record.state with
  | some f, .held => if (s.st i).record.tendingHold then s else s.keepHeld i f
  | some f, .tending =>
    match (s.st i).record.tending with
    | some ⟨.pay, cls⟩ => s.keepPay i cls f
    | some ⟨.haul, _⟩ => s.keepHaul i f
    | none => s
  | _, _ => s

end Sys2Proof.Machine
end

