-- ==== Sys2Proof/Machine/Reports.lean ====
section
/-! DEFINITION. A station port's work on its module's reports: collecting and checking a block (R60), the steps of R61, the
encoder and payout length (R64 to R66), the brake tests (R71 to R74), and the Sequencer's steps of R28; and the meanings of the
rows that concern a report: STATION_REPORT and REPORT_GAP_TIMEOUT. -/

namespace Sys2Proof.Machine

/-! ### The end of an event -/

/-- R63: the command set due is sent, with the values the commands hold when the event's work is done. -/
def Station.send (i : StationNo) (st : Station) : Station :=
  if st.port.sendDue then
    { st with port := { st.port with sendDue := false, sentSet := st.commandSet i, sends := st.port.sends + 1 } }
  else st

/-- R63: every command set due is sent. -/
def State.sendSets (s : State) : State :=
  { s with stations := Vector.ofFn fun i : Fin 16 => (s.stations[i]).send i }

/-- R150: the release line found asserted arms the quick release. -/
def State.armQuickRelease (s : State) : State :=
  { s with eqr := .arming, eqrTimer := some s.berth.eqrHold }.raise .eqrArming .berth 0

/-- R3, R163, R170: start-up and berth reset end when no station is settling: the computed phase is entered, then the release
line is evaluated once (R150). -/
def State.endStarting (s : State) : State :=
  if s.phase = .starting && s.reload.isNone && !s.anySettling then
    let entered := s.enterPhase s.computedPhase
    if entered.releaseLine then entered.armQuickRelease else entered
  else s

/-! ### The block -/

/-- A report that has passed the checks of R60. -/
structure Report where
  encoder : BitVec 16
  readings : Readings
  deriving DecidableEq, Repr

/-- The latch field of the sensor byte; 3 is not valid (section 3.2, R60). -/
def latchField (sensors : Byte) : Option Latch :=
  match sensors.toNat % 4 with
  | 0 => some .open
  | 1 => some .closed
  | 2 => some .moving
  | _ => none

/-- The readings a block carries (section 3.2): `low`, `high` the load sample's bytes. -/
def readingsOf (latch : Latch) (low high sensors : Byte) : Readings :=
  { latch := latch
    brake := if sensors.getLsbD 2 then .free else .set
    endStop := sensors.getLsbD 3
    moduleFault := sensors.getLsbD 4
    loadSample := high ++ low }

/-- R60: a complete block is taken when its check is correct, its station number is the port's and its latch field is valid. -/
def parseReport (i : StationNo) (block : List Byte) : Option Report :=
  match block with
  | [number, low, high, encLow, encHigh, sensors, crcHigh, crcLow] =>
    if checkBytes [number, low, high, encLow, encHigh, sensors] = [crcHigh, crcLow] && number.toNat = i.val then
      (latchField sensors).map fun latch =>
        { encoder := encHigh ++ encLow, readings := readingsOf latch low high sensors }
    else none
  | _ => none

/-! ### Readings, encoder, payout length, stall -/

/-- R64: the encoder difference, signed; none on the report that seeds the count. -/
def encoderDifference (previous : Option (BitVec 16)) (count : BitVec 16) : Option Int :=
  previous.map fun p => (count - p).toInt

/-- R65: a jump. -/
def isJump : Option Int → Bool
  | some d => 2048 < d.natAbs
  | none => false

/-- R66: step 1, the difference added to a known length. -/
def movedLength (length : Option Nat) (difference : Option Int) : Option Nat :=
  match length, difference with
  | some n, some d => if isJump (some d) then some n else some (clampInt 65535 ((n : Int) + d))
  | n, _ => n

/-- R66: the payout length after a report. -/
def newLength (length : Option Nat) (difference : Option Int) (endStop : Bool) : Option Nat :=
  if endStop then some 0 else movedLength length difference

/-- R67: a report whose difference is not 0 and that brought no jump restarts a running stall timer. -/
def newStall (running : Option Nat) (interval : Nat) (difference : Option Int) : Option Nat :=
  match running, difference with
  | some d, some diff => if diff ≠ 0 && !isJump (some diff) then some interval else some d
  | t, _ => t

/-- R61 steps 1, 2, 4 and 5, and the end of a set watch at a report that shows SET (R74). -/
def Station.takeReadings (lossInterval stallInterval : Nat) (r : Report) (st : Station) : Station :=
  let difference := encoderDifference st.port.encoder r.encoder
  { st with
    record := { st.record with payoutLength := newLength st.record.payoutLength difference r.readings.endStop }
    port :=
      { st.port with
        reportLossTimer := some lossInterval
        reportSinceFault := true
        readings := some r.readings
        encoder := some r.encoder
        stallTimer := newStall st.port.stallTimer stallInterval difference
        brakeTimer :=
          match st.port.brakeTimer, r.readings.brake with
          | .watch _, .set => .stopped
          | t, _ => t } }

/-- R78: whether the Tension Unit computes this station's tension. -/
def Station.computed (st : Station) : Bool := st.inService || st.settling

/-! ### The brake tests -/

/-- R71: FREE in FREEING begins driving in the direction the station's state names. -/
def State.beginDriving (s : State) (i : StationNo) : State :=
  match (s.st i).request with
  | some (_, d) =>
    s.modPort i fun p =>
      { p.command d.drive .free with
        handshake := .driving, brakeTimer := .stopped, stallTimer := some s.berth.stallInterval }
  | none => s

/-- R72: SET in DRIVING goes back to FREEING. -/
def Port.brakeAppliedDriving (timeout : Nat) (p : Port) : Port :=
  { p.command .hold .free with handshake := .freeing, stallTimer := none, brakeTimer := .step timeout }

/-- R73: SET in SETTING ends the handshake. -/
def Port.endHandshake (p : Port) : Port := { p.command .off .set with handshake := .rest, brakeTimer := .stopped }

/-- R71, R72, R73: what a report that brought no earlier finding does to the handshake. -/
def State.testBrake (s : State) (i : StationNo) (reading : Brake) : State :=
  match (s.st i).port.handshake, reading with
  | .freeing, .free => s.beginDriving i
  | .driving, .set => s.modPort i (Port.brakeAppliedDriving s.berth.brakeTimeout)
  | .setting, .set => (s.modPort i Port.endHandshake).returnGrant i
  | .freeing, .set => s
  | .driving, .free => s
  | .setting, .free => s
  | .rest, _ => s

/-- A set watch runs (R74). -/
def Port.watching (p : Port) : Bool :=
  match p.brakeTimer with
  | .watch _ => true
  | .step _ => false
  | .stopped => false

/-- R74: FREE in REST is a finding, but on a settling station and while a set watch runs. -/
def Station.brakeFinding (st : Station) (reading : Brake) : Bool :=
  st.port.handshake = .rest && reading = .free && !st.settling && !st.port.watching

/-! ### The Sequencer's steps on a report -/

/-- R50: the states watched for LATCH_LOST; a settling station is reconstructed instead (R55). -/
def Station.latchLost (st : Station) (reading : Latch) : Bool :=
  !st.settling && reading ≠ .closed
    && (st.record.state = .takeup || st.record.state = .held || st.record.state = .tending || st.record.state = .easing)

/-- R35, R37: the filtered tension is at or above the target. -/
def State.atTarget (s : State) (i : StationNo) : Bool :=
  match (s.st i).tension.filtered with
  | some f => (s.band i).target ≤ f
  | none => false

/-- R38, R39: the filtered tension is at or below the release limit. -/
def State.atReleaseLimit (s : State) (i : StationNo) : Bool :=
  match (s.st i).tension.filtered with
  | some f => f ≤ (s.band i).releaseLimit
  | none => false

/-- A state change of the Sequencer by which an operation completes or fails, with its notice. The Arbiter hears of the change
first, so a PREEMPTED of the event stands before the OP alert, and the notice's alerts after it (DESIGN CHOICE, log 6). -/
def State.moveEnding (s : State) (i : StationNo) (state : LineState) (failure : Option FailReason) : State :=
  ((s.enterState i state none).endOperation i failure).noticeFrom s i

/-- R35: the latch test of SEATING. -/
def State.testSeating (s : State) (i : StationNo) (r : Readings) : State :=
  if r.latch = .closed then
    let stopped := s.modRecord i fun rec => { rec with seatTimer := none }
    if s.atTarget i then stopped.moveEnding i .held none else (stopped.enterState i .takeup none).noticeFrom s i
  else s

/-- R39: the two tests of EASING. -/
def State.testEasing (s : State) (i : StationNo) : State :=
  if s.atReleaseLimit i then (s.enterReleasing i).noticeFrom s i
  else if !(s.st i).mayPay (s.band i).maxPayout then s.moveEnding i .held (some .limit)
  else s

/-- R34, R92: the length test of PAYOUT, against the target lowered to the max payout in force. -/
def State.testPayout (s : State) (i : StationNo) : State :=
  match (s.st i).record.runOutTarget, (s.st i).record.payoutLength with
  | some target, some n =>
    let lowered := min target (s.band i).maxPayout
    let s' := s.modRecord i fun rec => { rec with runOutTarget := some lowered }
    if lowered ≤ n then s'.moveEnding i .presented none else s'
  | _, _ => s

/-- R40: the latch test of RELEASING. -/
def State.testReleasing (s : State) (i : StationNo) (r : Readings) : State :=
  if r.latch = .open then
    (s.modRecord i fun rec => { rec with latchOpenTimer := none }).moveEnding i .slack none
  else s

/-- R42: the end-stop test of REWINDING. The port has set the length known and 0 on this report (R66). -/
def State.testRewinding (s : State) (i : StationNo) (r : Readings) : State :=
  if r.endStop then s.moveEnding i .stowed none else s

/-- R28, steps 3 and 4, by the state. -/
def State.testState (s : State) (i : StationNo) (r : Readings) : State :=
  match (s.st i).record.state with
  | .seating => s.testSeating i r
  | .takeup => if s.atTarget i then s.moveEnding i .held none else s
  | .easing => s.testEasing i
  | .payout => s.testPayout i
  | .releasing => s.testReleasing i r
  | .rewinding => s.testRewinding i r
  | .held => s.keepTension i
  | .tending => s.keepTension i
  | .outOfService => s
  | .stowed => s
  | .slack => s
  | .presented => s
  | .faulted => s

/-- R49: the first cause in the order MODULE, ENCODER, LOAD_RANGE, BRAKE, LATCH_LOST. -/
def firstCause (module encoder loadRange brake latchLost : Bool) : Option FaultCause :=
  if module then some .module
  else if encoder then some .encoder
  else if loadRange then some .loadRange
  else if brake then some .brake
  else if latchLost then some .latchLost
  else none

/-- R28, steps 2 to 4, on a report without a finding that is acted on. During the reload of a berth reset the Sequencers make
none of them (R169). -/
def State.workReport (s : State) (i : StationNo) (r : Readings) : State :=
  if s.reload.isSome then s else if (s.st i).settling then s.reconstruct i r else s.testState i r

/-- R24: the latch notice of a station that was FAULTED when the report arrived, with its latch-engaged mark of then. -/
def State.latchNotice (s : State) (i : StationNo) (before : Station) : State :=
  if before.record.state = .faulted then s.notice i (s.st i).holding before.engaged else s

/-- R28, R49: the Sequencer's work on a report with its findings. -/
def State.sequencerReport (s : State) (i : StationNo) (r : Readings) (cause : Option FaultCause) : State :=
  match cause with
  | some c => if (s.st i).actsOnFinding then s.enterFaulted i c else s.workReport i r
  | none => s.workReport i r

/-- R61: a taken report, steps 1 to 8. The blocks raise their alerts as its steps reach them: SURGE_START at step 6, a PREEMPTED
of a grant that returns at step 7, then the Sequencer's at step 8 with the notice's after them, last those of the end of
STARTING. R147 leaves the order of different blocks' alerts open (DESIGN CHOICE, log 6). -/
def State.takeReport (s : State) (i : StationNo) (r : Report) : State :=
  let read := s.modSt i (Station.takeReadings s.berth.reportLossInterval s.berth.stallInterval r)
  let jump := isJump (encoderDifference (s.st i).port.encoder r.encoder)
  let measured := if (read.st i).computed then read.computeTension i r.readings else read
  let loadRange := (read.st i).computed && (measured.st i).loadRange
  let earlier := r.readings.moduleFault || jump || loadRange
  let braked := if earlier then measured else measured.testBrake i r.readings.brake
  let brake := !earlier && (measured.st i).brakeFinding r.readings.brake
  let cause := firstCause r.readings.moduleFault jump loadRange brake ((braked.st i).latchLost r.readings.latch)
  ((braked.sequencerReport i r.readings cause).latchNotice i (s.st i)).endStarting

/-- R60: a complete block is taken or discarded; either way the command set is sent (R63). -/
def State.completeBlock (s : State) (i : StationNo) (block : List Byte) : State :=
  let worked :=
    match parseReport i block with
    | some r => s.takeReport i r
    | none => s
  (worked.modPort i fun p => { p with sendDue := true }).sendSets

/-- R60: one byte arrives at a station port. -/
def State.receiveReportByte (s : State) (i : StationNo) (b : Byte) : State :=
  let block := (s.st i).port.block ++ [b]
  if block.length < 8 then s.modPort i fun p => { p with block := block }
  else (s.modPort i fun p => { p with block := [] }).completeBlock i block

/-- R60: bytes arrive back to back. -/
def receiveReportBytes (i : StationNo) : List Byte → State → State
  | [], s => s
  | b :: rest, s => receiveReportBytes i rest (s.receiveReportByte i b)

/-! ### The meanings -/

/-- STATION_REPORT (R60, R61). -/
def execStationReport (i : StationNo) (bytes : List Byte) (s : State) : Host.Outcome State Fault Refusal :=
  .next (receiveReportBytes i bytes s)

/-- REPORT_GAP_TIMEOUT (R60): the partial block is abandoned, and no command set is sent. -/
def execReportGapTimeout (i : StationNo) (s : State) : Host.Outcome State Fault Refusal :=
  .next (s.modPort i fun p => { p with block := [] })

end Sys2Proof.Machine
end

