-- ==== Sys2Proof/Machine/Emergency.lean ====
section
/-! DEFINITION. The Emergency Unit: the rows VESSEL_RELEASE_ASSERTED, VESSEL_RELEASE_DEASSERTED, EQR_TIMER_EXPIRY,
QUAY_STOP_ASSERTED and QUAY_STOP_RELEASED (R148 to R153, R116, R117). -/

namespace Sys2Proof.Machine

/-- R149, R150: the release line becomes asserted. -/
def State.assertRelease (s : State) : State :=
  let seen := { s with releaseLine := true }
  if s.phase ≠ .starting && s.eqr = .idle then seen.armQuickRelease else seen

/-- VESSEL_RELEASE_ASSERTED (R149); a line asserted already makes no change. -/
def execVesselReleaseAsserted (s : State) : Host.Outcome State Fault Refusal :=
  .next (if s.releaseLine then s else s.assertRelease)

/-- R149, R150: the release line becomes deasserted. -/
def State.deassertRelease (s : State) : State :=
  let seen := { s with releaseLine := false }
  match s.eqr with
  | .arming => { seen with eqr := .idle, eqrTimer := none }.raise .eqrAbandoned .berth 0
  | .fired => { seen with eqr := .idle }
  | .idle => seen

/-- VESSEL_RELEASE_DEASSERTED (R149); a line deasserted already makes no change. -/
def execVesselReleaseDeasserted (s : State) : Host.Outcome State Fault Refusal :=
  .next (if s.releaseLine then s.deassertRelease else s)

/-- R151: the port's share of the firing, and the grant, queue entry or holdoff removed at once. The command set is sent to every
station this acts on, one whose commands all stand already included (DESIGN CHOICE, log 30). -/
def State.fireDrive (s : State) (i : StationNo) : State :=
  ((s.portSafe i).modPort i fun p => { p with sendDue := true }).removeAtOnce i

/-- R151: a station with its line on the ferry is opened. A PREEMPTED that its returned grant makes due stands before its OP_FAILED
(DESIGN CHOICE, log 6), as in `State.firePayout`. -/
def State.fireOpen (s : State) (i : StationNo) : State :=
  (((s.fireDrive i).enterReleasing i).endOperation i (some .emergency)).noticeFrom s i

/-- R151: a station in PAYOUT is stopped. -/
def State.firePayout (s : State) (i : StationNo) : State :=
  (((s.fireDrive i).enterState i .slack none).endOperation i (some .emergency)).noticeFrom s i

/-- R151, R152: a FAULTED station, settling or not, whose latch reading is not OPEN. -/
def State.fireFaulted (s : State) (i : StationNo) : State :=
  if (s.st i).latchReading = .open then s else (s.fireDrive i).commandLatch i .open

/-- R151, R152: the firing reaches a station. A REWINDING, RELEASING, STOWED, SLACK or PRESENTED station whose grant is still
returning keeps it, as R151's table says; R153 says of a firing under the quay stop that the grants of the returning holders are
removed (DESIGN CHOICE, log 31). -/
def State.fireStation (s : State) (i : StationNo) : State :=
  match (s.st i).record.state with
  | .seating => if (s.st i).settling then s else s.fireOpen i
  | .takeup => if (s.st i).settling then s else s.fireOpen i
  | .held => if (s.st i).settling then s else s.fireOpen i
  | .tending => if (s.st i).settling then s else s.fireOpen i
  | .easing => if (s.st i).settling then s else s.fireOpen i
  | .payout => if (s.st i).settling then s else s.firePayout i
  | .faulted => s.fireFaulted i
  | .releasing => s
  | .rewinding => s
  | .stowed => s
  | .slack => s
  | .presented => s
  | .outOfService => s

/-- R151: the firing reaches every station, in ascending number (log 7). -/
def fireStations : List StationNo → State → State
  | [], s => s
  | i :: rest, s => fireStations rest (s.fireStation i)

/-- R151, R7: the firing. -/
def State.fire (s : State) : State :=
  let fired := ({ s with eqr := .fired, eqrTimer := none }.enterPhase .emergency).raise .eqrFired .berth 0
  (fireStations allStations fired).sendSets

/-- EQR_TIMER_EXPIRY (R149, R151). -/
def execEqrTimerExpiry (s : State) : Host.Outcome State Fault Refusal :=
  .next (if s.eqrTimer.isSome && s.eqr = .arming then s.fire else s)

/-- R116, R153: the quay stop becomes asserted. -/
def State.assertQuayStop (s : State) : State :=
  ((stopHolders s.holders { s with quayStop := true }).raise .quayStop .berth 1).sendSets

/-- QUAY_STOP_ASSERTED (R153); a line asserted already makes no change. -/
def execQuayStopAsserted (s : State) : Host.Outcome State Fault Refusal := .next (if s.quayStop then s else s.assertQuayStop)

/-- R117, R153: the quay stop becomes released. The Arbiter's PREEMPTED stands before QUAY_STOP (DESIGN CHOICE, log 6). -/
def State.releaseQuayStop (s : State) : State :=
  (({ s with quayStop := false }.arbiterTest).raise .quayStop .berth 0).sendSets

/-- QUAY_STOP_RELEASED (R153); a line released already makes no change. -/
def execQuayStopReleased (s : State) : Host.Outcome State Fault Refusal := .next (if s.quayStop then s.releaseQuayStop else s)

end Sys2Proof.Machine
end

