-- ==== Sys2Proof/Machine/Operands.lean ====
section
/-! DEFINITION. The operand forms of an order: its code (R158), its target (R123), its parameter bytes (R158), its outcome
(R159), and the answer frame that carries the outcome back (R156). -/

namespace Sys2Proof.Machine

/-- The order codes (R158). -/
inductive OrderCode where
  | runOut
  | seat
  | release
  | rewind
  | stop
  | tend
  | clearFault
  | setService
  | setPhase
  | takeLocal
  | giveLocal
  | berthReset
  | setParam
  | getParam
  | profileSave
  | getStation
  | getBerth
  | readHistory
  | fetchAlert
  deriving DecidableEq, Repr

/-- The code byte (R158). -/
def OrderCode.byte : OrderCode → Byte
  | .runOut => 0x01
  | .seat => 0x02
  | .release => 0x03
  | .rewind => 0x04
  | .stop => 0x05
  | .tend => 0x06
  | .clearFault => 0x07
  | .setService => 0x08
  | .setPhase => 0x10
  | .takeLocal => 0x11
  | .giveLocal => 0x12
  | .berthReset => 0x13
  | .setParam => 0x20
  | .getParam => 0x21
  | .profileSave => 0x22
  | .getStation => 0x30
  | .getBerth => 0x31
  | .readHistory => 0x32
  | .fetchAlert => 0x33

/-- Every order code, in the order of R158. -/
def allOrderCodes : List OrderCode :=
  [.runOut, .seat, .release, .rewind, .stop, .tend, .clearFault, .setService, .setPhase, .takeLocal, .giveLocal, .berthReset,
   .setParam, .getParam, .profileSave, .getStation, .getBerth, .readHistory, .fetchAlert]

/-- The order of a code byte; none for a code not in the table (R158). -/
def OrderCode.ofByte (b : Byte) : Option OrderCode := allOrderCodes.find? fun c => c.byte = b

/-- The parameter count of each code (R158). -/
def OrderCode.paramCount : OrderCode → Nat
  | .runOut => 2
  | .seat => 0
  | .release => 0
  | .rewind => 0
  | .stop => 0
  | .tend => 0
  | .clearFault => 0
  | .setService => 1
  | .setPhase => 1
  | .takeLocal => 0
  | .giveLocal => 0
  | .berthReset => 0
  | .setParam => 6
  | .getParam => 2
  | .profileSave => 0
  | .getStation => 0
  | .getBerth => 0
  | .readHistory => 0
  | .fetchAlert => 0

/-- The outcome byte (R159). -/
def Verdict.byte : Verdict → Byte
  | .accepted => 0x00
  | .done => 0x01
  | .unknownOrder => 0x80
  | .badFormat => 0x81
  | .badTarget => 0x82
  | .noAuthority => 0x83
  | .localControl => 0x84
  | .busy => 0x85
  | .wrongState => 0x86
  | .phase => 0x87
  | .planMinimum => 0x88
  | .sequence => 0x89
  | .range => 0x8A
  | .profileBusy => 0x8B
  | .starting => 0x8C

/-- What the Order Unit answers: an outcome and the data bytes (R130, R131). -/
structure Reply where
  verdict : Verdict
  data : List Byte
  deriving DecidableEq, Repr

/-- An answer that carries no data. -/
def Reply.plain (v : Verdict) : Reply := { verdict := v, data := [] }

/-- The answer frame (R156). -/
def answerFrame (code tag : Byte) (r : Reply) : List Byte :=
  let body := byteOf (3 + r.data.length) :: code :: tag :: r.verdict.byte :: r.data
  0x5A :: body ++ checkBytes body

/-! ### Targets -/

/-- What a target byte names (R123). -/
inductive Target where
  | station (i : StationNo)
  | group (g : GroupNo)
  | all
  | berth
  | invalid
  deriving DecidableEq, Repr

/-- The target byte: 0..15 a station, 16..21 a group, 31 all stations, 32 the berth (R123). -/
def targetOf (b : Byte) : Target :=
  if h : b.toNat < 16 then .station ⟨b.toNat, h⟩
  else if h : b.toNat - 16 < 6 then .group ⟨b.toNat - 16, h⟩
  else if b.toNat = 31 then .all
  else if b.toNat = 32 then .berth
  else .invalid

/-- The four kinds of order by the targets they take (R123). -/
inductive TargetKind where
  | stationOrder
  | stationQuery
  | groupOrder
  | berthOrder
  deriving DecidableEq, Repr

/-- The kind of each order (R123). -/
def OrderCode.targetKind : OrderCode → TargetKind
  | .runOut => .stationOrder
  | .seat => .stationOrder
  | .release => .stationOrder
  | .rewind => .stationOrder
  | .stop => .stationOrder
  | .tend => .stationOrder
  | .clearFault => .stationOrder
  | .setService => .stationOrder
  | .getStation => .stationQuery
  | .readHistory => .stationQuery
  | .takeLocal => .groupOrder
  | .giveLocal => .groupOrder
  | .setPhase => .berthOrder
  | .berthReset => .berthOrder
  | .setParam => .berthOrder
  | .getParam => .berthOrder
  | .profileSave => .berthOrder
  | .getBerth => .berthOrder
  | .fetchAlert => .berthOrder

/-- R123: the target check; a group target needs an enabled group. -/
def State.targetGood (s : State) (kind : TargetKind) (t : Target) : Bool :=
  match kind, t with
  | .stationOrder, .station _ => true
  | .stationOrder, .group g => (s.group g).enabled
  | .stationOrder, .all => true
  | .stationQuery, .station _ => true
  | .groupOrder, .group g => (s.group g).enabled
  | .berthOrder, .berth => true
  | _, _ => false

/-- R123, R129: the stations of a station order's target, in ascending number. -/
def State.targetStations (s : State) (t : Target) : List StationNo :=
  match t with
  | .station i => [i]
  | .group g => allStations.filter fun i => (s.group g).contains i.val
  | .all => allStations
  | .berth => []
  | .invalid => []

/-! ### Parameters -/

/-- R33, R158: the two bytes of a target payout length. -/
def lengthParam (o : Order) : Nat := numberOf (o.params.take 2)

/-- The first parameter byte: the phase code of SET_PHASE, the service byte, the table of SET_PARAM and GET_PARAM. -/
def firstParam (o : Order) : Nat := numberOf (o.params.take 1)

/-- The index of SET_PARAM and GET_PARAM. -/
def indexParam (o : Order) : Nat := numberOf ((o.params.drop 1).take 1)

/-- The four-byte value of SET_PARAM (R133). -/
def valueParam (o : Order) : Nat := numberOf ((o.params.drop 2).take 4)

/-- R45, R122, R158: the format check of a known code. -/
def formatGood (c : OrderCode) (o : Order) : Bool :=
  o.params.length = c.paramCount && (c ≠ .setService || firstParam o < 2)

end Sys2Proof.Machine
end

