-- ==== Sys2Proof/Machine/OrderUnit.lean ====
section
/-! DEFINITION. The Order Unit: taking an order from a link in rotation (R121, R155), the check sequence (R122 to R127), orders
on several stations, worked one station at a time (R121, R129, R130), and the answer (R131, R156). -/

namespace Sys2Proof.Machine

/-! ### Checks -/

/-- R122, steps 1 to 3, for a known code; none passes. -/
def State.refusedWhole (s : State) (c : OrderCode) (o : Order) : Option Verdict :=
  if s.phase = .starting && c ≠ .getParam && c ≠ .getBerth then some .starting
  else if !formatGood c o then some .badFormat
  else if !s.targetGood c.targetKind (targetOf o.target) then some .badTarget
  else none

/-- R124: the scope of a station in the authority table: its group, or 6 while it is ungrouped. -/
def State.scopeOf (s : State) (i : StationNo) : Fin 8 :=
  match s.groupOf i with
  | some g => ⟨g.val, Nat.lt_of_lt_of_le g.isLt (by decide)⟩
  | none => 6

/-- R124: an entry of the authority table. -/
def State.authority (s : State) (m : Master) (scope : Fin 8) : Authority := (s.params.authority.get m)[scope]

/-- R125: ORDER on the station's scope. -/
def State.mayOrder (s : State) (m : Master) (i : StationNo) : Bool := s.authority m (s.scopeOf i) = .order

/-- R125: OBSERVE or ORDER on the station's scope. -/
def State.mayObserve (s : State) (m : Master) (i : StationNo) : Bool := s.authority m (s.scopeOf i) ≠ .none

/-- R127: the station lies in a local group and the order comes from SHORE or VESSEL. -/
def State.heldLocal (s : State) (m : Master) (i : StationNo) : Bool :=
  m ≠ .quay && match s.groupOf i with | some g => s.localControl[g] | none => false

/-- R31: an operation in flight owned by another master. -/
def State.ownedByOther (s : State) (m : Master) (i : StationNo) : Bool :=
  (s.st i).record.operation.isSome
    && match (s.st i).record.owner with | some m' => m' ≠ m | none => false

/-- R122, steps 4 to 6, of an operation order on one station. -/
def State.operationRefused (s : State) (m : Master) (i : StationNo) : Option Verdict :=
  if !s.mayOrder m i then some .noAuthority
  else if s.heldLocal m i then some .localControl
  else if s.ownedByOther m i then some .busy
  else none

/-- R122, steps 4 and 5, of TEND and CLEAR_FAULT on one station. -/
def State.tendRefused (s : State) (m : Master) (i : StationNo) : Option Verdict :=
  if !s.mayOrder m i then some .noAuthority else if s.heldLocal m i then some .localControl else none

/-- R122, step 4, of STOP on one station. -/
def State.observeRefused (s : State) (m : Master) (i : StationNo) : Option Verdict :=
  if s.mayObserve m i then none else some .noAuthority

/-- R125: the orders that are taken from the shore link alone. -/
def shoreOnly (m : Master) : Option Verdict := if m = .shore then none else some .noAuthority

/-- R21: RUN_OUT and SEAT are taken on in ALONGSIDE and MOORED. -/
def Phase.takesSeating (p : Phase) : Bool := p = .alongside || p = .moored

/-- R18, R21: RELEASE is taken on in ALONGSIDE, MOORED and UNMOORING. -/
def Phase.takesRelease (p : Phase) : Bool := p = .alongside || p = .moored || p = .unmooring

/-! ### One station or several -/

/-- What one station makes of an order: refused with a reason, or accepted with the part as the acceptance leaves it. -/
abbrev StationWork := StationNo → State → Except Verdict State

/-- R130, R159: the applied map. -/
def appliedMap (results : List (StationNo × Option Verdict)) : Nat :=
  (results.filter fun r => r.2.isNone).foldl (fun acc r => acc + 2 ^ r.1.val) 0

/-- R130: the refusal reason of the lowest-numbered station refused, or ACCEPTED. -/
def firstRefusal (results : List (StationNo × Option Verdict)) : Verdict :=
  match results.findSome? fun r => r.2 with
  | some v => v
  | none => .accepted

/-- R130: the answer to a station order on a group or on all stations. -/
def groupReply (results : List (StationNo × Option Verdict)) : Reply :=
  if results.any fun r => r.2.isNone then
    { verdict := .accepted, data := le16 (appliedMap results) ++ [(firstRefusal results).byte] }
  else Reply.plain (firstRefusal results)

/-- R131: an order on the berth or a group, or a query: it is taken with data, or refused. -/
def wholeOrder (c : OrderCode) (work : Target → State → Except Verdict (State × Reply)) (o : Order) (s : State) : State × Reply :=
  match s.refusedWhole c o with
  | some v => (s, .plain v)
  | none =>
    match work (targetOf o.target) s with
    | .ok r => r
    | .error v => (s, .plain v)

/-! ### The links and the rotation -/

/-- The next link in the cycle shore, vessel, quay, shore (R121). -/
def nextMaster : Master → Master
  | .shore => .vessel
  | .vessel => .quay
  | .quay => .shore

/-- A master's link. -/
def State.link (s : State) (m : Master) : Link := s.links.get m

/-- Change a master's link. -/
def State.modLink (s : State) (m : Master) (f : Link → Link) : State := { s with links := s.links.set m (f (s.links.get m)) }

/-- R155: the link has an order waiting and its transmitter is idle. -/
def Link.ready (l : Link) : Bool := l.waiting.isSome && l.sending.isNone

/-- R121, R155: the link whose waiting order the Order Unit takes next; none while it is busy with a berth reset (R169) or with an
order on several stations. -/
def State.nextServed (s : State) : Option Master :=
  if s.reload.isSome || s.underWay.isSome then none
  else [s.nextLink, nextMaster s.nextLink, nextMaster (nextMaster s.nextLink)].find? fun m => (s.link m).ready

/-- R155, R156: the transmitter begins to send the answer to an order. -/
def State.answer (s : State) (m : Master) (o : Order) (r : Reply) : State :=
  s.modLink m fun l => { l with sending := some (answerFrame o.code o.tag r) }

/-- R121, R155: the Order Unit takes the order waiting on a link: the slot is freed and the rotation moves on. -/
def State.freeSlot (s : State) (m : Master) : State :=
  { s.modLink m fun l => { l with waiting := none } with nextLink := nextMaster m }

/-- What the owning blocks make of an order that the Order Unit has taken: the part after it, and the answer; no answer yet
while a berth reset reloads the profile (R169). -/
abbrev OrderWork := Master → Order → State → State × Option Reply

/-- R121, R128, R129, R131: a station order whose acceptance by a single station is answered `taken`. Aimed at one station it is
worked at once; aimed at a group or at all stations it is under way from here on, on the stations that the target stands for when
the order is taken (R123), and its answer is built when the last of them has had its turn. -/
def stationOrder (c : OrderCode) (taken : Verdict) (work : StationWork) (m : Master) (o : Order) (s : State) :
    State × Option Reply :=
  match s.refusedWhole c o with
  | some v => (s, some (.plain v))
  | none =>
    match targetOf o.target with
    | .station i =>
      match work i s with
      | .ok s' => (s', some (.plain taken))
      | .error v => (s, some (.plain v))
    | t => ({ s with underWay := some { link := m, order := o, rest := s.targetStations t, results := [] } }, none)

/-- R121: an order taken: checked, handed on, answered unless its answer is still to come, and the command sets it made due sent
(R63). -/
def State.takeOrder (s : State) (m : Master) (o : Order) (work : OrderWork) : State :=
  let r := work m o (s.freeSlot m)
  match r.2 with
  | some reply => (r.1.answer m o reply).sendSets
  | none => r.1.sendSets

/-- R129: one station's turn at an order on several stations: it is judged and changed as if the order had been aimed at it
alone, and its command set is sent (R63). -/
def State.workTurn (s : State) (w : OrderUnderWay) (work : StationWork) (i : StationNo) (rest : List StationNo) : State :=
  match work i s with
  | .ok s' => { s' with underWay := some { w with rest := rest, results := w.results ++ [(i, none)] } }.sendSets
  | .error v => { s with underWay := some { w with rest := rest, results := w.results ++ [(i, some v)] } }.sendSets

/-- R121, R129, R130: the Order Unit goes on with an order on several stations: the next station has its turn, or, when none is
left, the answer is built. -/
def State.workNext (s : State) (w : OrderUnderWay) (work : StationWork) : State :=
  match w.rest with
  | i :: rest => s.workTurn w work i rest
  | [] => ({ s with underWay := none }.answer w.link w.order (groupReply w.results)).sendSets

/-- R121: an order on several stations worked to its end with no event between, in at most `n` turns. -/
def workTurns (work : StationWork) : Nat → State → State
  | 0, s => s
  | n + 1, s =>
    match s.underWay with
    | some w => workTurns work n (s.workNext w work)
    | none => s

/-- R121: the order under way, if there is one, worked to its end: a turn for each station left, and the answer. -/
def State.finishOrder (s : State) (work : StationWork) : State :=
  match s.underWay with
  | some w => workTurns work (w.rest.length + 1) s
  | none => s

/-- R155: an order that is complete on a link is placed in the empty waiting slot. -/
def Link.place (o : Order) (l : Link) : Link :=
  match l.waiting with
  | none => { l with waiting := some o }
  | some _ => l

/-- R121, R155: the Order Unit takes an order that stands in its link's slot: the link's transmitter is idle, the Unit is free and
the rotation has come to this link. -/
def State.takesPlaced (s : State) (m : Master) (o : Order) : Bool := (s.link m).waiting = some o && s.nextServed = some m

/-- An order row: the order comes in on its link, if it is not waiting there already, and the Order Unit takes it if it can.
Otherwise the order waits, or is discarded where another order is waiting (R121, R155; log 3). -/
def State.giveOrder (s : State) (m : Master) (o : Order) (work : OrderWork) : State :=
  let placed := s.modLink m (Link.place o)
  if placed.takesPlaced m o then placed.takeOrder m o work else placed

/-- The row of a station order: as `giveOrder`, and an order on several stations that is taken is worked to its end within the row
(log 10). -/
def State.giveStationOrder (s : State) (m : Master) (o : Order) (order : OrderWork) (work : StationWork) : State :=
  let placed := s.modLink m (Link.place o)
  if placed.takesPlaced m o then (placed.takeOrder m o order).finishOrder work else placed

/-- The order that a row's operands spell under a code. -/
def rowOrder (c : OrderCode) (a : OrderArgs) : Order :=
  { code := c.byte, tag := a.tag, target := a.target, params := a.params }

end Sys2Proof.Machine
end

