-- ==== Sys2Proof/Machine/Profile.lean ====
section
/-! DEFINITION. The Profile Controller: a parameter write with what its keeping block does at once (R132 to R135), the profile
image and its load (R164, R165), the entries of a save and the writes that store them (R167, R168). -/

namespace Sys2Proof.Machine

/-! ### One write -/

/-- The master whose attention threshold a berth item is (R134). -/
def thresholdMaster : Nat → Option Master
  | 10 => some .shore
  | 11 => some .vessel
  | 12 => some .quay
  | _ => none

/-- R144: a master's attention output evaluated again. -/
def State.evaluateAttention (s : State) (m : Master) : State :=
  { s with mailboxes := s.mailboxes.set m ((s.mailboxes.get m).evaluate (s.threshold m)) }

/-- R114, R126, R144: what follows at once from a write to an item of a table. -/
def State.takeUpWrite (s : State) (table index v : Nat) : State :=
  if table = 5 then
    if index = 0 then s.takeUpLimit
    else
      match thresholdMaster index with
      | some m => s.evaluateAttention m
      | none => s
  else if h : table = 2 ∧ index % 4 = 0 ∧ 16 ≤ v ∧ index / 4 < 6 then
    { s with localControl := setFlag s.localControl ⟨index / 4, h.2.2.2⟩ false }
  else s

/-- R132, R133: the keeping block takes a written value; none is the refusal RANGE. -/
def State.writeParam (s : State) (table index v : Nat) : Option State :=
  (s.params.write table index v).map fun p => { s with params := p }.takeUpWrite table index v

/-! ### Loading -/

/-- R164: a byte of the image; a memory that does not respond reads 0xFF everywhere. -/
def imageByte (responds : Bool) (mem : List Host.Cell) (a : Nat) : Byte := if responds then cellAt mem a else 0xFF

/-- R164: the number read from consecutive bytes. -/
def imageNumber (responds : Bool) (mem : List Host.Cell) (a count : Nat) : Nat :=
  numberOf ((List.range count).map fun k => imageByte responds mem (a + k))

/-- Section 11.2: entry `n` of the image. -/
def imageEntry (responds : Bool) (mem : List Host.Cell) (n : Nat) : ProfileEntry :=
  { table := imageNumber responds mem (4 + 6 * n) 1
    index := imageNumber responds mem (5 + 6 * n) 1
    value := imageNumber responds mem (6 + 6 * n) 4 }

/-- R164: the header is judged. -/
def imageResult (responds : Bool) (mem : List Host.Cell) : LoadResult :=
  if imageByte responds mem 0 = 0xFF then .absent
  else if imageByte responds mem 0 = 0xC3 && imageByte responds mem 1 = 1 then .loaded
  else .invalid

/-- R164: the entries a good header announces. -/
def imageEntries (responds : Bool) (mem : List Host.Cell) : List ProfileEntry :=
  (List.range (min 2044 (imageNumber responds mem 2 2) / 6)).map (imageEntry responds mem)

/-- R165: the entries applied one by one, with the applied and skipped counts so far. -/
def applyEntries : List ProfileEntry → State → Nat → Nat → State × Nat × Nat
  | [], s, applied, skipped => (s, applied, skipped)
  | e :: rest, s, applied, skipped =>
    match s.writeParam e.table e.index e.value with
    | some s' => applyEntries rest s' (applied + 1) skipped
    | none => applyEntries rest s applied (skipped + 1)

/-- R165: the details of PROFILE for a load. -/
def LoadResult.code : LoadResult → Nat
  | .loaded => 1
  | .absent => 2
  | .invalid => 3

/-- R164, R165: the profile is loaded and its status recorded. -/
def State.loadProfile (s : State) (responds : Bool) : State :=
  match imageResult responds s.memory with
  | .loaded =>
    let r := applyEntries (imageEntries responds s.memory) s 0 0
    { r.1 with profile := { result := .loaded, applied := r.2.1, skipped := r.2.2 } }
  | .absent => { s with profile := { result := .absent, applied := 0, skipped := 0 } }
  | .invalid => { s with profile := { result := .invalid, applied := 0, skipped := 0 } }

/-- R165: the PROFILE alert of a load. -/
def State.profileAlert (s : State) : Alert := ⟨.profile, .berth, s.profile.result.code⟩

/-! ### Saving -/

/-- An entry for an item that differs from its default (R167). -/
def entryFor (p : Params) (table index : Nat) : List ProfileEntry :=
  match p.read table index, Params.default.read table index with
  | some v, some d => if v = d then [] else [⟨table, index, v⟩]
  | _, _ => []

/-- An entry for a band item that stands below (`below`) or above its default (R167). -/
def bandEntry (p : Params) (below : Bool) (index : Nat) : List ProfileEntry :=
  match p.read 1 index, Params.default.read 1 index with
  | some v, some d => if (if below then v < d else d < v) then [⟨1, index, v⟩] else []
  | _, _ => []

/-- R167: the entries of one station: calibration, the four runs of the band items, dwell and max payout. -/
def stationEntries (p : Params) (i : Nat) : List ProfileEntry :=
  let at' (item : Nat) : Nat := 16 * i + item
  [0, 1, 2].flatMap (fun k => entryFor p 1 (at' k))
    ++ [6, 8].flatMap (fun k => bandEntry p true (at' k))
    ++ [3, 4, 5, 7].flatMap (fun k => bandEntry p true (at' k))
    ++ [7, 5, 4, 3].flatMap (fun k => bandEntry p false (at' k))
    ++ [6, 8].flatMap (fun k => bandEntry p false (at' k))
    ++ [9, 10].flatMap (fun k => entryFor p 1 (at' k))

/-- R167: the entries of one group: last, first, minimum, rank. -/
def groupEntries (p : Params) (g : Nat) : List ProfileEntry :=
  [1, 0, 2, 3].flatMap fun k => entryFor p 2 (4 * g + k)

/-- R167: the entries of a save, in their order. -/
def saveEntries (p : Params) : List ProfileEntry :=
  (List.range 14).flatMap (fun k => entryFor p 5 k)
    ++ (List.range 24).flatMap (fun k => entryFor p 4 k)
    ++ (List.range 64).flatMap (fun k => entryFor p 3 k)
    ++ (List.range 6).flatMap (groupEntries p)
    ++ (List.range 16).flatMap (stationEntries p)

/-- Section 11.2: the six bytes of an entry. -/
def ProfileEntry.bytes (e : ProfileEntry) : List Byte := byteOf e.table :: byteOf e.index :: le32 e.value

/-- Bytes stored one after another from an address on. -/
def cellsFrom : Nat → List Byte → List Host.Cell
  | _, [] => []
  | a, b :: rest => (a, b) :: cellsFrom (a + 1) rest

/-- R167, steps 2 to 4: the bytes a save writes and reads back. -/
def verifiedWrites (entries : List ProfileEntry) : List Host.Cell :=
  cellsFrom 4 (entries.flatMap ProfileEntry.bytes) ++ (1, 1) :: cellsFrom 2 (le16 (6 * entries.length)) ++ [(0, 0xC3)]

/-- R167, step 1, and the write that follows a mismatch: byte 0 reads ABSENT. -/
def invalidation : Host.Cell := (0, 0xFF)

/-- R167, R168: every byte write of a save that finds a mismatch, in order. -/
def saveWrites (entries : List ProfileEntry) : List Host.Cell :=
  invalidation :: verifiedWrites entries ++ [invalidation]

/-- R167, steps 1 to 4 made on a memory whose `faulty` cells hold another value than was written. -/
def savedMemory (mem : List Host.Cell) (entries : List ProfileEntry) (faulty : List Host.Cell) : List Host.Cell :=
  writeCells (writeCells mem (invalidation :: verifiedWrites entries)) faulty

/-- R167, step 5: every byte written in steps 2 to 4 reads back as written. -/
def readsBack (mem : List Host.Cell) (entries : List ProfileEntry) : Bool :=
  (verifiedWrites entries).all fun c => cellAt mem c.1 = c.2

end Sys2Proof.Machine
end

