-- ==== Sys2Proof/Machine/BerthOrders.lean ====
section
/-! DEFINITION. The rows of orders on the berth or a group, of station queries and of alerts: SET_PHASE, TAKE_LOCAL, GIVE_LOCAL,
SET_PARAM, GET_PARAM, PROFILE_SAVE, GET_STATION, GET_BERTH, READ_HISTORY, FETCH_ALERT. For each: its work, the whole order, and
the row's meaning. -/

namespace Sys2Proof.Machine

/-! ### SET_PHASE -/

/-- R4: the transitions a SET_PHASE may make. -/
def State.wantPhase (s : State) (wanted : Nat) : Except Verdict State :=
  match s.phase, wanted with
  | .vacant, 2 => .ok (s.enterPhase .alongside).evaluateMoored
  | .alongside, 1 => if s.engagedCount = 0 then .ok (s.enterPhase .vacant) else .error .wrongState
  | .moored, 4 => .ok (s.enterPhase .unmooring).evaluateVacant
  | .emergency, 1 => if s.engagedCount = 0 then .ok (s.enterPhase .vacant) else .error .wrongState
  | _, _ => .error .phase

/-- R4, R125: SET_PHASE on the berth. -/
def workSetPhase (m : Master) (wanted : Nat) (s : State) : Except Verdict (State × Reply) :=
  if s.authority m 7 ≠ .order then .error .noAuthority
  else
    match s.wantPhase wanted with
    | .ok s' => .ok (s', .plain .done)
    | .error v => .error v

/-- SET_PHASE, whole. -/
def orderSetPhase : OrderWork := fun m o s =>
  let r := wholeOrder .setPhase (fun _ => workSetPhase m (firstParam o)) o s
  (r.1, some r.2)

/-- SET_PHASE (R4). -/
def execSetPhase (a : OrderArgs) (s : State) : Host.Outcome State Fault Refusal :=
  .next (s.giveOrder a.link (rowOrder .setPhase a) orderSetPhase)

/-! ### TAKE_LOCAL and GIVE_LOCAL -/

/-- R126: a group's local-control flag set or cleared, from the quay link alone. -/
def workLocal (m : Master) (flag : Bool) (t : Target) (s : State) : Except Verdict (State × Reply) :=
  match m, t with
  | .quay, .group g => .ok ({ s with localControl := setFlag s.localControl g flag }, .plain .done)
  | _, _ => .error .noAuthority

/-- TAKE_LOCAL, whole. -/
def orderTakeLocal : OrderWork := fun m o s =>
  let r := wholeOrder .takeLocal (workLocal m true) o s
  (r.1, some r.2)

/-- TAKE_LOCAL (R126). -/
def execTakeLocal (a : OrderArgs) (s : State) : Host.Outcome State Fault Refusal :=
  .next (s.giveOrder a.link (rowOrder .takeLocal a) orderTakeLocal)

/-- GIVE_LOCAL, whole. -/
def orderGiveLocal : OrderWork := fun m o s =>
  let r := wholeOrder .giveLocal (workLocal m false) o s
  (r.1, some r.2)

/-- GIVE_LOCAL (R126). -/
def execGiveLocal (a : OrderArgs) (s : State) : Host.Outcome State Fault Refusal :=
  .next (s.giveOrder a.link (rowOrder .giveLocal a) orderGiveLocal)

/-! ### SET_PARAM and GET_PARAM -/

/-- R159: the data of SET_PARAM and GET_PARAM. -/
def paramData (table index v : Nat) : List Byte := byteOf table :: byteOf index :: le32 v

/-- R11, R122, R125, R132, R133: SET_PARAM. -/
def workSetParam (m : Master) (table index v : Nat) (s : State) : Except Verdict (State × Reply) :=
  match shoreOnly m with
  | some r => .error r
  | none =>
    if s.saving.isSome then .error .profileBusy
    else if table = 2 && s.phase ≠ .vacant then .error .phase
    else
      match s.writeParam table index v with
      | none => .error .range
      | some s' => .ok (s', { verdict := .done, data := paramData table index ((s'.params.read table index).getD 0) })

/-- SET_PARAM, whole. -/
def orderSetParam : OrderWork := fun m o s =>
  let r := wholeOrder .setParam (fun _ => workSetParam m (firstParam o) (indexParam o) (valueParam o)) o s
  (r.1, some r.2)

/-- SET_PARAM (R132). -/
def execSetParam (a : OrderArgs) (s : State) : Host.Outcome State Fault Refusal :=
  .next (s.giveOrder a.link (rowOrder .setParam a) orderSetParam)

/-- R132: GET_PARAM. -/
def workGetParam (table index : Nat) (s : State) : Except Verdict (State × Reply) :=
  match s.params.read table index with
  | none => .error .range
  | some v => .ok (s, { verdict := .done, data := paramData table index v })

/-- GET_PARAM, whole. -/
def orderGetParam : OrderWork := fun _ o s =>
  let r := wholeOrder .getParam (fun _ => workGetParam (firstParam o) (indexParam o)) o s
  (r.1, some r.2)

/-- GET_PARAM (R132). -/
def execGetParam (a : OrderArgs) (s : State) : Host.Outcome State Fault Refusal :=
  .next (s.giveOrder a.link (rowOrder .getParam a) orderGetParam)

/-! ### PROFILE_SAVE -/

/-- R125, R166: PROFILE_SAVE. -/
def workProfileSave (m : Master) (s : State) : Except Verdict (State × Reply) :=
  match shoreOnly m with
  | some r => .error r
  | none =>
    if s.saving.isSome then .error .profileBusy
    else if s.phase ≠ .vacant then .error .phase
    else .ok ({ s with saving := some (saveEntries s.params) }, .plain .accepted)

/-- PROFILE_SAVE, whole. -/
def orderProfileSave : OrderWork := fun m o s =>
  let r := wholeOrder .profileSave (fun _ => workProfileSave m) o s
  (r.1, some r.2)

/-- PROFILE_SAVE (R166). -/
def execProfileSave (a : OrderArgs) (s : State) : Host.Outcome State Fault Refusal :=
  .next (s.giveOrder a.link (rowOrder .profileSave a) orderProfileSave)

/-! ### GET_STATION -/

/-- R160: an absent number is sent as 0. -/
def orZero (n : Option Nat) : Nat := n.getD 0

/-- R160, byte 2. -/
def stationFlags (s : State) (i : StationNo) (st : Station) : Nat :=
  bitAt 0 st.inService + bitAt 1 st.settling + bitAt 2 st.record.tendingHold + bitAt 3 st.record.payoutLength.isSome
    + bitAt 4 st.holding + bitAt 5 st.engaged
    + bitAt 6 (match s.groupOf i with | some g => s.localControl[g] | none => false)
    + bitAt 7 st.port.reportSinceFault

/-- R160, byte 3. -/
def stationPresence (st : Station) : Nat :=
  bitAt 0 st.record.operation.isSome + bitAt 1 st.record.owner.isSome + bitAt 2 st.record.runOutTarget.isSome
    + bitAt 3 st.record.tending.isSome + bitAt 4 st.tension.scaled.isSome + bitAt 5 st.tension.filtered.isSome
    + bitAt 6 st.port.readings.isSome + bitAt 7 st.port.encoder.isSome

/-- R160, byte 8. -/
def tendingBits : Option Tending → Nat
  | some t => bitAt 0 (t.direction = .haul) + bitAt 1 (t.cls = 1)
  | none => 0

/-- R160, byte 13. -/
def DriveStatus.bits : DriveStatus → Nat
  | .idle => 0
  | .queued cls => 1 + 4 * cls
  | .granted => 2
  | .holdoff => 3

/-- Bits 0–4 of the sensor byte (section 3.2, R160 byte 16). -/
def sensorBits : Option Readings → Nat
  | some r => r.latch.code + 4 * r.brake.code + bitAt 3 r.endStop + bitAt 4 r.moduleFault
  | none => 0

/-- R160: the 30 bytes of GET_STATION. -/
def stationData (s : State) (i : StationNo) : List Byte :=
  let st := s.st i
  [byteOf i.val, byteOf st.record.state.code, byteOf (stationFlags s i st), byteOf (stationPresence st),
   byteOf (orZero (st.record.operation.map Operation.code)), byteOf (orZero (st.record.owner.map masterNumber))]
    ++ le16 (orZero st.record.runOutTarget)
    ++ [byteOf (tendingBits st.record.tending), byteOf (orZero (st.record.faultCause.map FaultCause.code)),
        byteOf st.record.faultCount]
    ++ le16 (orZero st.record.payoutLength)
    ++ [byteOf (s.driveStatus i).bits, byteOf st.commandByte, byteOf st.port.handshake.code,
        byteOf (sensorBits st.port.readings)]
    ++ le16 (orZero (st.port.readings.map fun r => r.loadSample.toNat))
    ++ le16 (orZero (st.port.encoder.map BitVec.toNat))
    ++ le16 (orZero st.tension.scaled) ++ le16 (orZero st.tension.filtered)
    ++ [byteOf (st.tension.saturationRun + bitAt 7 st.tension.saturated), byteOf st.tension.history.length,
        byteOf st.tension.hi, byteOf st.tension.lo,
        byteOf (match s.groupOf i with | some g => g.val | none => 255)]

/-- R125: a station query needs OBSERVE or ORDER on the station's scope. -/
def workStationQuery (m : Master) (data : State → StationNo → List Byte) (t : Target) (s : State) :
    Except Verdict (State × Reply) :=
  match t with
  | .station i =>
    match s.observeRefused m i with
    | some v => .error v
    | none => .ok (s, { verdict := .done, data := data s i })
  | _ => .error .badTarget

/-- GET_STATION, whole. -/
def orderGetStation : OrderWork := fun m o s =>
  let r := wholeOrder .getStation (workStationQuery m stationData) o s
  (r.1, some r.2)

/-- GET_STATION (R136). -/
def execGetStation (a : OrderArgs) (s : State) : Host.Outcome State Fault Refusal :=
  .next (s.giveOrder a.link (rowOrder .getStation a) orderGetStation)

/-! ### READ_HISTORY -/

/-- R89, R159: the count and the values of the history ring, oldest first. -/
def historyData (s : State) (i : StationNo) : List Byte :=
  let ring := (s.st i).tension.history
  byteOf ring.length :: ring.flatMap le16

/-- READ_HISTORY, whole. -/
def orderReadHistory : OrderWork := fun m o s =>
  let r := wholeOrder .readHistory (workStationQuery m historyData) o s
  (r.1, some r.2)

/-- READ_HISTORY (R89). -/
def execReadHistory (a : OrderArgs) (s : State) : Host.Outcome State Fault Refusal :=
  .next (s.giveOrder a.link (rowOrder .readHistory a) orderReadHistory)

/-! ### GET_BERTH -/

/-- The codes of the EQR state (R161). -/
def EqrState.code : EqrState → Nat
  | .idle => 0
  | .arming => 1
  | .fired => 2

/-- R161, bytes 3–8. -/
def groupBits (s : State) (g : GroupNo) : Nat :=
  s.holdingCount g + bitAt 5 (s.group g).enabled + bitAt 6 (s.groupEngaged g) + bitAt 7 s.shortFlags[g]

/-- Bytes in `n` slots, 0xFF in an unused one (R161). -/
def slots (n : Nat) (bytes : List Byte) : List Byte := (bytes ++ List.replicate n 0xFF).take n

/-- R161, bytes 11–16: one holder. -/
def Holder.byte (h : Holder) : Byte := byteOf (h.station.val + 16 * h.cls + bitAt 6 (!h.active))

/-- R161, bytes 17–32: one queue entry. -/
def QueueEntry.byte (e : QueueEntry) : Byte := byteOf (e.station.val + 16 * e.cls + bitAt 6 e.front.isSome)

/-- R161, bytes 33–34. -/
def State.holdoffMap (s : State) : Nat := (allStations.map fun i => bitAt i.val (s.inHoldoff i)).sum

/-- R161, byte 9. -/
def State.localMap (s : State) : Nat := (allGroups.map fun g => bitAt g.val s.localControl[g]).sum

/-- R161: the 39 bytes of GET_BERTH to a master. -/
def berthData (s : State) (m : Master) : List Byte :=
  [byteOf (s.phase.code + 8 * s.eqr.code + bitAt 5 s.quayStop + bitAt 6 s.releaseLine + bitAt 7 s.surgeTimer.isSome),
   byteOf (s.berthHolding + bitAt 5 s.ungroupedEngaged + bitAt 6 s.saving.isSome),
   byteOf s.engagedCount]
    ++ allGroups.map (fun g => byteOf (groupBits s g))
    ++ [byteOf s.localMap, byteOf (s.berth.grantLimit + 16 * s.holders.length)]
    ++ slots 6 (s.holders.map Holder.byte)
    ++ slots 16 (s.queue.map QueueEntry.byte)
    ++ le16 s.holdoffMap
    ++ [byteOf ((s.mailboxes.get m).entries.length + bitAt 6 (s.mailboxes.get m).lost)]
    ++ (le32 (s.profile.applied + 512 * s.profile.skipped + 262144 * s.profile.result.code)).take 3

/-- GET_BERTH, whole (R125, R137). -/
def orderGetBerth : OrderWork := fun m o s =>
  let r := wholeOrder .getBerth (fun _ s => .ok (s, { verdict := .done, data := berthData s m })) o s
  (r.1, some r.2)

/-- GET_BERTH (R137). -/
def execGetBerth (a : OrderArgs) (s : State) : Host.Outcome State Fault Refusal :=
  .next (s.giveOrder a.link (rowOrder .getBerth a) orderGetBerth)

/-! ### FETCH_ALERT -/

/-- R159: the data of FETCH_ALERT: the entry, the lost flag before the fetch, the count left. -/
def fetchData (head : Option AlertEntry) (lost : Bool) (left : Nat) : List Byte :=
  match head with
  | some e =>
    [byteOf e.kind.code, byteOf e.subject.code, byteOf e.detail, byteOf e.level, byteOf e.mergeCount, byteOf (bitAt 0 lost),
     byteOf left]
  | none => [0xFF, 0, 0, 0, 0, byteOf (bitAt 0 lost), 0]

/-- R145: the head is removed and the lost flag cleared; an empty queue is not changed. -/
def Mailbox.fetched (q : Mailbox) (threshold : Nat) : Mailbox :=
  match q.entries with
  | [] => q
  | _ :: rest => { q with entries := rest, lost := false }.evaluate threshold

/-- R145: FETCH_ALERT for the sending master. -/
def workFetchAlert (m : Master) (s : State) : Except Verdict (State × Reply) :=
  let q := s.mailboxes.get m
  .ok ({ s with mailboxes := s.mailboxes.set m (q.fetched (s.threshold m)) },
       { verdict := .done, data := fetchData q.entries.head? q.lost q.entries.tail.length })

/-- FETCH_ALERT, whole. -/
def orderFetchAlert : OrderWork := fun m o s =>
  let r := wholeOrder .fetchAlert (fun _ => workFetchAlert m) o s
  (r.1, some r.2)

/-- FETCH_ALERT (R145). -/
def execFetchAlert (a : OrderArgs) (s : State) : Host.Outcome State Fault Refusal :=
  .next (s.giveOrder a.link (rowOrder .fetchAlert a) orderFetchAlert)

end Sys2Proof.Machine
end

