-- ==== Sys2Proof/Machine/StationOrders.lean ====
section
/-! DEFINITION. The nine rows of station orders: RUN_OUT, SEAT, RELEASE, REWIND, STOP, TEND, CLEAR_FAULT, SET_SERVICE_OUT and
SET_SERVICE_IN (R29 to R47). For each: what one station makes of it (R122, steps 4 to 9, and the work), the whole order, and
the row's meaning. -/

namespace Sys2Proof.Machine

/-! ### RUN_OUT -/

/-- R33: the payout length a RUN_OUT starts from; none refuses WRONG_STATE. A length known before a berth reset is known after it, as
R23, R58 and R66 say and the NOTE of R33 does not (DESIGN CHOICE, log 33). -/
def Station.runOutFrom (st : Station) : Option Nat :=
  if !st.settling && (st.record.state = .stowed || st.record.state = .slack) then st.record.payoutLength else none

/-- R33: the work of an accepted RUN_OUT from payout length `n`. -/
def State.acceptRunOut (s : State) (i : StationNo) (m : Master) (target n : Nat) : State :=
  let clamped := min target (s.band i).maxPayout
  let started := s.startOperation i .runOut m (some clamped)
  if clamped ≤ n then started.moveEnding i .presented none else (started.enterState i .payout none).noticeFrom s i

/-- R33: RUN_OUT on one station. -/
def workRunOut (m : Master) (target : Nat) : StationWork := fun i s =>
  match s.operationRefused m i with
  | some v => .error v
  | none =>
    if !s.phase.takesSeating then .error .phase
    else
      match (s.st i).runOutFrom with
      | none => .error .wrongState
      | some n => .ok (s.acceptRunOut i m target n)

/-- RUN_OUT, whole. -/
def orderRunOut : OrderWork := fun m o s => stationOrder .runOut .accepted (workRunOut m (lengthParam o)) m o s

/-- RUN_OUT (R33). -/
def execRunOut (a : OrderArgs) (s : State) : Host.Outcome State Fault Refusal :=
  .next (s.giveStationOrder a.link (rowOrder .runOut a) orderRunOut (workRunOut a.link (lengthParam (rowOrder .runOut a))))

/-! ### SEAT -/

/-- R35: the work of an accepted SEAT. -/
def State.acceptSeat (s : State) (i : StationNo) (m : Master) : State :=
  let started := (s.startOperation i .seat m none).commandLatch i .close
  let timed := started.modRecord i fun r => { r with seatTimer := some s.berth.seatTimeout }
  (timed.enterState i .seating none).noticeFrom s i

/-- R35: SEAT on one station. -/
def workSeat (m : Master) : StationWork := fun i s =>
  match s.operationRefused m i with
  | some v => .error v
  | none =>
    if !s.phase.takesSeating then .error .phase
    else if (s.st i).settling || (s.st i).record.state ≠ .presented then .error .wrongState
    else .ok (s.acceptSeat i m)

/-- SEAT, whole. -/
def orderSeat : OrderWork := fun m o s => stationOrder .seat .accepted (workSeat m) m o s

/-- SEAT (R35). -/
def execSeat (a : OrderArgs) (s : State) : Host.Outcome State Fault Refusal :=
  .next (s.giveStationOrder a.link (rowOrder .seat a) orderSeat (workSeat a.link))

/-! ### RELEASE -/

/-- R38: the states from which RELEASE is accepted. -/
def Station.releasable (st : Station) : Bool :=
  !st.settling && (st.record.state = .takeup || st.record.state = .held || st.record.state = .tending)

/-- R18: the plan part of the release gate; none passes. -/
def State.releaseGate (s : State) (i : StationNo) : Option Verdict :=
  if s.phase = .moored && s.belowMinimum i then some .planMinimum
  else if s.phase = .unmooring && s.outOfSequence i then some .sequence
  else none

/-- R38: the work of an accepted RELEASE. -/
def State.acceptRelease (s : State) (i : StationNo) (m : Master) : State :=
  let started := s.startOperation i .release m none
  (if s.atReleaseLimit i then started.enterReleasing i else started.enterState i .easing none).noticeFrom s i

/-- R38: RELEASE on one station. -/
def workRelease (m : Master) : StationWork := fun i s =>
  match s.operationRefused m i with
  | some v => .error v
  | none =>
    if !s.phase.takesRelease then .error .phase
    else if !(s.st i).releasable then .error .wrongState
    else
      match s.releaseGate i with
      | some v => .error v
      | none => .ok (s.acceptRelease i m)

/-- RELEASE, whole. -/
def orderRelease : OrderWork := fun m o s => stationOrder .release .accepted (workRelease m) m o s

/-- RELEASE (R38). -/
def execRelease (a : OrderArgs) (s : State) : Host.Outcome State Fault Refusal :=
  .next (s.giveStationOrder a.link (rowOrder .release a) orderRelease (workRelease a.link))

/-! ### REWIND -/

/-- R41: the states from which REWIND is accepted. -/
def Station.rewindable (st : Station) : Bool :=
  !st.settling && (st.record.state = .slack || st.record.state = .presented || st.record.state = .payout)

/-- R41: the work of an accepted REWIND. -/
def State.acceptRewind (s : State) (i : StationNo) (m : Master) : State :=
  ((s.startOperation i .rewind m none).enterState i .rewinding none).noticeFrom s i

/-- R41: REWIND on one station. -/
def workRewind (m : Master) : StationWork := fun i s =>
  match s.operationRefused m i with
  | some v => .error v
  | none => if (s.st i).rewindable then .ok (s.acceptRewind i m) else .error .wrongState

/-- REWIND, whole. -/
def orderRewind : OrderWork := fun m o s => stationOrder .rewind .accepted (workRewind m) m o s

/-- REWIND (R41). -/
def execRewind (a : OrderArgs) (s : State) : Host.Outcome State Fault Refusal :=
  .next (s.giveStationOrder a.link (rowOrder .rewind a) orderRewind (workRewind a.link))

/-! ### STOP -/

/-- R43, R44: the tending hold is set. -/
def State.setHold (s : State) (i : StationNo) : State := s.modRecord i fun r => { r with tendingHold := true }

/-- R43: STOP by the state of the station; none refuses WRONG_STATE. -/
def State.acceptStop (s : State) (i : StationNo) : Option State :=
  match (s.st i).record.state with
  | .payout => some (s.moveEnding i .slack (some .cancelled))
  | .rewinding => some (s.moveEnding i .slack (some .cancelled))
  | .seating => some (((s.enterReleasing i).endOperation i (some .cancelled)).noticeFrom s i)
  | .takeup => some ((s.setHold i).moveEnding i .held (some .cancelled))
  | .held => some (s.setHold i)
  | .tending => some ((s.setHold i).moveEnding i .held (some .cancelled))
  | .easing => some ((s.setHold i).moveEnding i .held (some .cancelled))
  | .stowed => some s
  | .slack => some s
  | .presented => some s
  | .releasing => none
  | .faulted => none
  | .outOfService => none

/-- R43, R56: STOP on one station. -/
def workStop (m : Master) : StationWork := fun i s =>
  match s.observeRefused m i with
  | some v => .error v
  | none =>
    if (s.st i).settling then .error .wrongState
    else
      match s.acceptStop i with
      | none => .error .wrongState
      | some s' => .ok s'

/-- STOP, whole. -/
def orderStop : OrderWork := fun m o s => stationOrder .stop .done (workStop m) m o s

/-- STOP (R43). -/
def execStop (a : OrderArgs) (s : State) : Host.Outcome State Fault Refusal :=
  .next (s.giveStationOrder a.link (rowOrder .stop a) orderStop (workStop a.link))

/-! ### TEND -/

/-- R44: TEND on one station. -/
def workTend (m : Master) : StationWork := fun i s =>
  match s.tendRefused m i with
  | some v => .error v
  | none =>
    if !(s.st i).settling && (s.st i).record.state = .held && (s.st i).record.tendingHold then
      .ok (s.modRecord i fun r => { r with tendingHold := false })
    else .error .wrongState

/-- TEND, whole. -/
def orderTend : OrderWork := fun m o s => stationOrder .tend .done (workTend m) m o s

/-- TEND (R44). -/
def execTend (a : OrderArgs) (s : State) : Host.Outcome State Fault Refusal :=
  .next (s.giveStationOrder a.link (rowOrder .tend a) orderTend (workTend a.link))

/-! ### CLEAR_FAULT -/

/-- R47: the condition of a fault cause is absent at the most recent report. -/
def Station.conditionAbsent (st : Station) (cause : FaultCause) : Bool :=
  match st.port.readings with
  | none => false
  | some r =>
    match cause with
    | .latchLost => r.latch ≠ .moving
    | .latchStuck => r.latch ≠ .moving
    | .brake => r.brake = .set
    | .stall => r.brake = .set
    | .encoder => st.port.reportSinceFault
    | .reportLost => st.port.reportSinceFault
    | .module => !r.moduleFault
    | .loadRange => !st.tension.saturated

/-- R47: FAULTED, not settling, and the condition of the cause absent. -/
def Station.clearable (st : Station) : Bool :=
  !st.settling && st.record.state = .faulted
    && match st.record.faultCause with | some c => st.conditionAbsent c | none => false

/-- R47: CLEAR_FAULT on one station. -/
def workClearFault (m : Master) : StationWork := fun i s =>
  match s.tendRefused m i with
  | some v => .error v
  | none => if (s.st i).clearable then .ok (s.beginReconstruction i .clearFault) else .error .wrongState

/-- CLEAR_FAULT, whole. -/
def orderClearFault : OrderWork := fun m o s => stationOrder .clearFault .done (workClearFault m) m o s

/-- CLEAR_FAULT (R47). -/
def execClearFault (a : OrderArgs) (s : State) : Host.Outcome State Fault Refusal :=
  .next (s.giveStationOrder a.link (rowOrder .clearFault a) orderClearFault (workClearFault a.link))

/-! ### SET_SERVICE -/

/-- R45: the stations SET_SERVICE(out) takes. -/
def State.mayLeaveService (s : State) (i : StationNo) : Bool :=
  !(s.st i).settling
    && match (s.st i).record.state with
       | .stowed => s.driveStatus i = .idle
       | .slack => s.driveStatus i = .idle
       | .faulted => (s.st i).latchReading = .open
       | .payout => false
       | .presented => false
       | .seating => false
       | .takeup => false
       | .held => false
       | .tending => false
       | .easing => false
       | .releasing => false
       | .rewinding => false
       | .outOfService => false

/-- R45: SET_SERVICE(out) on one station. -/
def workServiceOut (m : Master) : StationWork := fun i s =>
  match shoreOnly m with
  | some v => .error v
  | none =>
    if s.mayLeaveService i then .ok ((s.enterState i .outOfService none).noticeFrom s i) else .error .wrongState

/-- R46: SET_SERVICE(in) on one station. -/
def workServiceIn (m : Master) : StationWork := fun i s =>
  match shoreOnly m with
  | some v => .error v
  | none =>
    if !(s.st i).settling && (s.st i).record.state = .outOfService then
      .ok ((s.modTension i fun x => { x with history := [] }).beginReconstruction i .service)
    else .error .wrongState

/-- SET_SERVICE on one station, by its service byte (R45). -/
def workSetService (m : Master) (o : Order) : StationWork := if firstParam o = 0 then workServiceOut m else workServiceIn m

/-- SET_SERVICE, whole. -/
def orderSetService : OrderWork := fun m o s => stationOrder .setService .done (workSetService m o) m o s

/-- SET_SERVICE_OUT (R45). -/
def execSetServiceOut (a : OrderArgs) (s : State) : Host.Outcome State Fault Refusal :=
  .next (s.giveStationOrder a.link { rowOrder .setService a with params := 0 :: a.params } orderSetService (workServiceOut a.link))

/-- SET_SERVICE_IN (R46). -/
def execSetServiceIn (a : OrderArgs) (s : State) : Host.Outcome State Fault Refusal :=
  .next (s.giveStationOrder a.link { rowOrder .setService a with params := 1 :: a.params } orderSetService (workServiceIn a.link))

/-! ### An order under way, by its code -/

/-- R128: what one station makes of a station order. No order of another code is ever worked station by station. -/
def stationWorkOf (m : Master) (o : Order) : StationWork :=
  match OrderCode.ofByte o.code with
  | some .runOut => workRunOut m (lengthParam o)
  | some .seat => workSeat m
  | some .release => workRelease m
  | some .rewind => workRewind m
  | some .stop => workStop m
  | some .tend => workTend m
  | some .clearFault => workClearFault m
  | some .setService => workSetService m o
  | some .setPhase => fun _ _ => .error .badTarget
  | some .takeLocal => fun _ _ => .error .badTarget
  | some .giveLocal => fun _ _ => .error .badTarget
  | some .berthReset => fun _ _ => .error .badTarget
  | some .setParam => fun _ _ => .error .badTarget
  | some .getParam => fun _ _ => .error .badTarget
  | some .profileSave => fun _ _ => .error .badTarget
  | some .getStation => fun _ _ => .error .badTarget
  | some .getBerth => fun _ _ => .error .badTarget
  | some .readHistory => fun _ _ => .error .badTarget
  | some .fetchAlert => fun _ _ => .error .badTarget
  | none => fun _ _ => .error .unknownOrder

/-- R121, R129: the Order Unit's next turn at the order under way. -/
def State.nextTurn (s : State) (w : OrderUnderWay) : State := s.workNext w (stationWorkOf w.link w.order)

end Sys2Proof.Machine
end

