-- ==== Sys2Proof/Machine/Links.lean ====
section
/-! DEFINITION. The link interfaces: the receiver and the waiting slot (R154, R155), the transmitter (R155, R156), the link reset
(R157); and the meanings of the rows ORDER_FRAME, ORDER_FRAME_GAP_TIMEOUT, FRAMING_ERROR, ANSWER_SENT and LINK_RESET. -/

namespace Sys2Proof.Machine

/-- R154: the bytes of a frame after the sync byte: the length, the body and two check bytes. -/
def frameLength (n : Nat) : Nat := 1 + n + 2

/-- R154: a complete frame, from the length byte on, gives its order when its check is right. -/
def parseFrame (taken : List Byte) : Option Order :=
  let checked := taken.dropLast.dropLast
  if checkBytes checked = taken.drop checked.length then
    match checked with
    | _ :: code :: tag :: target :: params => some { code := code, tag := tag, target := target, params := params }
    | _ => none
  else none

/-- R154, R155: one byte with a good stop bit arrives on a link. -/
def Link.receive (l : Link) (b : Byte) : Link :=
  match l.receiver with
  | .hunting => if b = 0xA5 then { l with receiver := .collecting [] } else l
  | .collecting [] =>
    if 3 ≤ b.toNat && b.toNat ≤ 19 then { l with receiver := .collecting [b] } else { l with receiver := .hunting }
  | .collecting (n :: got) =>
    let taken := n :: got ++ [b]
    if taken.length < frameLength n.toNat then { l with receiver := .collecting taken }
    else
      match parseFrame taken with
      | some o => { Link.place o l with receiver := .hunting }
      | none => { l with receiver := .hunting }

/-- R154: bytes arrive back to back. -/
def Link.receiveAll (l : Link) (bytes : List Byte) : Link := bytes.foldl Link.receive l

/-- R154: the frame being collected is abandoned. -/
def Link.abandonFrame (l : Link) : Link := { l with receiver := .hunting }

/-- The order frame that carries an order (R154), as a master sends it. -/
def orderFrame (o : Order) : List Byte :=
  let body := byteOf (3 + o.params.length) :: o.code :: o.tag :: o.target :: o.params
  0xA5 :: body ++ checkBytes body

/-- ORDER_FRAME (R154, R155). -/
def execOrderFrame (m : Master) (bytes : List Byte) (s : State) : Host.Outcome State Fault Refusal :=
  .next (s.modLink m fun l => l.receiveAll bytes)

/-- ORDER_FRAME_GAP_TIMEOUT (R154). -/
def execOrderFrameGapTimeout (m : Master) (s : State) : Host.Outcome State Fault Refusal := .next (s.modLink m Link.abandonFrame)

/-- R154: a byte that spoils the frame being collected; a hunting receiver passes over it. -/
def Link.spoil (l : Link) : BadByte → Link
  | .stopBitAtSpacing => l.abandonFrame
  | .length v => l.receive v

/-- FRAMING_ERROR (R154). -/
def execFramingError (m : Master) (b : BadByte) (s : State) : Host.Outcome State Fault Refusal :=
  .next (s.modLink m fun l => l.spoil b)

/-- ANSWER_SENT (R155): the transmitter becomes idle. The waiting order may then be taken: by its own row, or by the step on an
empty queue (log 3). -/
def execAnswerSent (m : Master) (s : State) : Host.Outcome State Fault Refusal :=
  .next (s.modLink m fun l => { l with sending := none })

/-- R32: the owner of an operation becomes absent at its master's link reset. -/
def Station.disown (m : Master) (st : Station) : Station :=
  { st with record := { st.record with owner := if st.record.owner = some m then none else st.record.owner } }

/-- R146: a queue emptied by a link reset. -/
def Mailbox.cleared (q : Mailbox) : Mailbox := { q with entries := [], lost := false, attention := false }

/-- R157: the link reset. -/
def State.resetLink (s : State) (m : Master) : State :=
  { s with
    links := s.links.set m { receiver := .hunting, waiting := none, sending := none }
    mailboxes := s.mailboxes.set m (s.mailboxes.get m).cleared
    stations := s.stations.map (Station.disown m)
    localControl := if m = .quay then Vector.replicate 6 false else s.localControl
    reload := if m = .shore then s.reload.map fun r => { r with answerDue := false } else s.reload }

/-- R157: an order of this link that the Order Unit has taken is applied whole before the reset takes place (log 28). -/
def State.applyWhole (s : State) (m : Master) : State :=
  match s.underWay with
  | some w => if w.link = m then s.finishOrder (stationWorkOf w.link w.order) else s
  | none => s

/-- LINK_RESET (R157). -/
def execLinkReset (m : Master) (s : State) : Host.Outcome State Fault Refusal := .next ((s.applyWhole m).resetLink m)

end Sys2Proof.Machine
end

