-- ==== Sys2Proof/Machine/Reset.lean ====
section
/-! DEFINITION. Power-on (R162, R168), the end of a save (R167), and the berth reset with its reload (R8, R58, R169): the rows
POWER_ON, PROFILE_SAVE_END, BERTH_RESET and PROFILE_RELOAD_END. -/

namespace Sys2Proof.Machine

/-- Reconstruction begins on every station of a list that a test picks (R53). -/
def reconstructEach (why : Reconstruction) (picks : Station → Bool) : List StationNo → State → State
  | [], s => s
  | i :: rest, s => reconstructEach why picks rest (if picks (s.st i) then s.beginReconstruction i why else s)

/-! ### Power-on -/

/-- R162: every item at its power-on value, over a profile memory and a queue of waiting commands that power-on does not touch. -/
def State.powerOnValues (memory : List Host.Cell) (pending : List Instr) : State :=
  { phase := .starting
    shortFlags := Vector.replicate 6 false
    params := .default
    stations := Vector.replicate 16 .powerOn
    surgeTimer := none
    holders := []
    queue := []
    holdoffs := []
    nextGrant := 0
    eqr := .idle
    eqrTimer := none
    releaseLine := false
    quayStop := false
    localControl := Vector.replicate 6 false
    nextLink := .shore
    underWay := none
    links := ⟨.powerOn, .powerOn, .powerOn⟩
    mailboxes := ⟨.empty, .empty, .empty⟩
    profile := { result := .absent, applied := 0, skipped := 0 }
    saving := none
    reload := none
    memory := memory
    pending := pending }

/-- R168: the memory as a power-on finds it: a save in progress has made its first `n` byte writes. R168's table starts at the first
write; before it, with `n` = 0, the old image stands and is loaded as it is (DESIGN CHOICE, log 19). -/
def State.memoryAtPowerOn (s : State) (n : Nat) : List Host.Cell :=
  match s.saving with
  | none => s.memory
  | some entries => writeCells s.memory ((saveWrites entries).take n)

/-- The set watch that starts at power-on (R74, R162). -/
def Station.startWatch (timeout : Nat) (st : Station) : Station :=
  { st with port := { st.port with brakeTimer := .watch timeout } }

/-- R162: what takes place when the power-on load has ended. The load has raised PROFILE by then, and an asserted quay stop line
raises QUAY_STOP after it: R147 leaves the order of these two blocks' alerts open (DESIGN CHOICE, log 6). -/
def State.afterLoad (s : State) (releaseLine quayLine : Bool) : State :=
  let settling := reconstructEach .powerOn (fun _ => true) allStations s
  let watching := { settling with stations := settling.stations.map (Station.startWatch s.berth.brakeTimeout) }
  let seen := { watching with releaseLine := releaseLine, quayStop := quayLine }
  (if quayLine then seen.raise .quayStop .berth 1 else seen).sendSets

/-- POWER_ON (R162, R165, R168). The PROFILE alert of this load is offered at the default routing levels, and before the
QUAY_STOP of `State.afterLoad` (DESIGN CHOICE, log 6). -/
def execPowerOn (releaseLine quayLine responds : Bool) (savedWrites : Nat) (s : State) : Host.Outcome State Fault Refusal :=
  let loaded := (State.powerOnValues (s.memoryAtPowerOn savedWrites) s.pending).loadProfile responds
  .next ((loaded.raiseBy routingDefault loaded.profileAlert none).afterLoad releaseLine quayLine)

/-! ### The end of a save -/

/-- R167: the save in progress ends. -/
def State.endSave (s : State) (entries : List ProfileEntry) (faulty : List Host.Cell) : State :=
  let written := savedMemory s.memory entries faulty
  let ended := { s with saving := none }
  if readsBack written entries then { ended with memory := written }.raise .profile .berth 4
  else { ended with memory := writeCell written invalidation }.raise .profile .berth 5

/-- PROFILE_SAVE_END (R167); without a save in progress nothing ends. -/
def execProfileSaveEnd (faulty : List (Nat × Byte)) (s : State) : Host.Outcome State Fault Refusal :=
  match s.saving with
  | none => .next s
  | some entries => .next (s.endSave entries faulty)

/-! ### Berth reset -/

/-- R58, R93: steps 1 to 5 on one station, less the emptying of the Arbiter. A report block that the port is collecting is kept,
which R59's table leaves open (DESIGN CHOICE, log 29). The payout length is kept, as R23, R58 and R66 say and the NOTE of R33 does
not (DESIGN CHOICE, log 33). A handshake step that runs in SETTING is stopped, as R69 and R70 say and R59's table does not (DESIGN
CHOICE, log 34). -/
def State.resetStation (s : State) (i : StationNo) : State :=
  let ended := (s.endOperation i (some .reset)).portSafe i
  ended.modRecord i fun r => { r.stopTimers with tending := none }

/-- R58 on every station of a list, whose order is that of their OP_FAILED(RESET) alerts. No rule gives one: `beginBerthReset`
goes in ascending number (DESIGN CHOICE, log 7). -/
def resetStations : List StationNo → State → State
  | [], s => s
  | i :: rest, s => resetStations rest (s.resetStation i)

/-- R93, R80: the dwell counters and the saturation run at a berth reset. -/
def Station.resetTension (st : Station) : Station :=
  { st with tension := { st.tension with hi := 0, lo := 0, saturationRun := 0 } }

/-- R150: the EQR state at a berth reset. -/
def State.resetQuickRelease (s : State) : State :=
  let idle := { s with eqr := .idle, eqrTimer := none }
  if s.eqr = .arming then idle.raise .eqrAbandoned .berth 0 else idle

/-- R169, steps 1 and 2. That step 1 goes through the stations in ascending number is the model's choice (log 7), as is that PHASE
stands before EQR_ABANDONED, which step 2 names in this order (log 6). -/
def State.beginBerthReset (s : State) : State :=
  let stopped := { resetStations allStations s with holders := [], queue := [], holdoffs := [] }
  let entered := (stopped.enterPhase .starting).resetQuickRelease
  { entered with
    surgeTimer := none
    localControl := Vector.replicate 6 false
    stations := entered.stations.map Station.resetTension }

/-- R53, R58: the stations a berth reset reconstructs. -/
def Station.resetReconstructs (st : Station) : Bool :=
  st.settling || (st.record.state ≠ .faulted && st.record.state ≠ .outOfService)

/-- R169, step 4, and R170. -/
def State.finishBerthReset (s : State) : State :=
  (reconstructEach .berthReset Station.resetReconstructs allStations s).endStarting

/-- BERTH_RESET, whole (R122, R169). With "reload profile on berth reset" the answer waits for PROFILE_RELOAD_END. -/
def orderBerthReset : OrderWork := fun m o s =>
  match s.refusedWhole .berthReset o with
  | some v => (s, some (.plain v))
  | none =>
    match shoreOnly m with
    | some v => (s, some (.plain v))
    | none =>
      if s.saving.isSome then (s, some (.plain .profileBusy))
      else if s.berth.reloadOnReset = 1 then ({ s.beginBerthReset with reload := some { order := o, answerDue := true } }, none)
      else (s.beginBerthReset.finishBerthReset, some (.plain .accepted))

/-- BERTH_RESET (R169). -/
def execBerthReset (a : OrderArgs) (s : State) : Host.Outcome State Fault Refusal :=
  .next (s.giveOrder a.link (rowOrder .berthReset a) orderBerthReset)

/-- R169: the reload ends, step 4 is made, and the answer is built unless the shore link was reset meanwhile (R157). -/
def State.endReload (s : State) (r : Reload) (responds : Bool) : State :=
  let loaded := { s with reload := none }.loadProfile responds
  let raised := loaded.raiseBy loaded.params.routing loaded.profileAlert none
  let finished := raised.finishBerthReset
  (if r.answerDue then finished.answer .shore r.order (.plain .accepted) else finished).sendSets

/-- PROFILE_RELOAD_END (R169); without a reload under way nothing ends. -/
def execProfileReloadEnd (responds : Bool) (s : State) : Host.Outcome State Fault Refusal :=
  match s.reload with
  | none => .next s
  | some r => .next (s.endReload r responds)

end Sys2Proof.Machine
end

