-- ==== Sys2Proof/Machine/Serve.lean ====
section
/-! DEFINITION. What the Order Unit does by itself: it goes on with an order on several stations (R121, R129), or takes a waiting
order of any code in rotation (R121, R155). -/

namespace Sys2Proof.Machine

/-- R122, R158: an order whose code is not in the table. -/
def orderUnknown : OrderWork := fun _ _ s => (s, some (.plain (if s.phase = .starting then .starting else .unknownOrder)))

/-- R128: the work of an order, by its code. -/
def workOf (o : Order) : OrderWork :=
  match OrderCode.ofByte o.code with
  | none => orderUnknown
  | some .runOut => orderRunOut
  | some .seat => orderSeat
  | some .release => orderRelease
  | some .rewind => orderRewind
  | some .stop => orderStop
  | some .tend => orderTend
  | some .clearFault => orderClearFault
  | some .setService => orderSetService
  | some .setPhase => orderSetPhase
  | some .takeLocal => orderTakeLocal
  | some .giveLocal => orderGiveLocal
  | some .berthReset => orderBerthReset
  | some .setParam => orderSetParam
  | some .getParam => orderGetParam
  | some .profileSave => orderProfileSave
  | some .getStation => orderGetStation
  | some .getBerth => orderGetBerth
  | some .readHistory => orderReadHistory
  | some .fetchAlert => orderFetchAlert

/-- R121, R155: the Order Unit takes the next waiting order, or rests when there is none it may take. -/
def State.takeNext (s : State) : State :=
  match s.nextServed with
  | none => s
  | some m =>
    match (s.link m).waiting with
    | none => s
    | some o => s.takeOrder m o (workOf o)

/-- R121, R129, R155: what the Order Unit does by itself next: one more turn of the order under way, or, when none is under way, the
next waiting order is taken. Other events may come between any two such turns (log 10). -/
def State.serveNext (s : State) : State :=
  match s.underWay with
  | some w => s.nextTurn w
  | none => s.takeNext

end Sys2Proof.Machine
end

