-- ==== Sys2Proof/Machine/Timers.lean ====
section
/-! DEFINITION. The rows by which a timer runs out: REPORT_LOSS_TIMEOUT, BRAKE_TIMEOUT, SET_WATCH_EXPIRY, STALL_TIMEOUT,
SEAT_TIMEOUT, LATCH_OPEN_TIMEOUT, SURGE_TIMER_EXPIRY and HOLDOFF_EXPIRY. A timer that is not running does not run out: the row then
changes nothing (log 4). -/

namespace Sys2Proof.Machine

/-- R68, R76, R81: the report-loss timer of a station runs out. -/
def State.loseReports (s : State) (i : StationNo) : State :=
  let stopped := s.modSt i fun st =>
    { st with
      port := { st.port with reportLossTimer := none }
      tension := { st.tension with seedPending := true } }
  ((stopped.finding i .reportLost).endStarting).sendSets

/-- REPORT_LOSS_TIMEOUT (R68). -/
def execReportLossTimeout (i : StationNo) (s : State) : Host.Outcome State Fault Refusal :=
  .next (if (s.st i).port.reportLossTimer.isSome then s.loseReports i else s)

/-- R71, R73: a handshake step of the brake timer runs out. -/
def State.loseBrake (s : State) (i : StationNo) : State :=
  ((s.modPort i fun p => { p with brakeTimer := .stopped }).finding i .brake).sendSets

/-- A handshake step runs on the brake timer. -/
def Port.stepping (p : Port) : Bool :=
  match p.brakeTimer with
  | .step _ => true
  | .watch _ => false
  | .stopped => false

/-- BRAKE_TIMEOUT (R71, R73). -/
def execBrakeTimeout (i : StationNo) (s : State) : Host.Outcome State Fault Refusal :=
  .next (if (s.st i).port.stepping then s.loseBrake i else s)

/-- R74: at the expiry of a set watch the latest report shows FREE on a station that is not settling. -/
def Station.watchFails (st : Station) : Bool :=
  !st.settling && match st.port.readings with | some r => r.brake = .free | none => false

/-- R74: a set watch runs out. -/
def State.endWatch (s : State) (i : StationNo) : State :=
  let stopped := s.modPort i fun p => { p with brakeTimer := .stopped }
  (if (s.st i).watchFails then stopped.finding i .brake else stopped).sendSets

/-- SET_WATCH_EXPIRY (R74). -/
def execSetWatchExpiry (i : StationNo) (s : State) : Host.Outcome State Fault Refusal :=
  .next (if (s.st i).port.watching then s.endWatch i else s)

/-- R67: the stall timer of a station runs out. -/
def State.stall (s : State) (i : StationNo) : State :=
  ((s.modPort i fun p => { p with stallTimer := none }).finding i .stall).sendSets

/-- STALL_TIMEOUT (R67). -/
def execStallTimeout (i : StationNo) (s : State) : Host.Outcome State Fault Refusal :=
  .next (if (s.st i).port.stallTimer.isSome then s.stall i else s)

/-- R36: the seat timer of a station in SEATING runs out. -/
def State.failSeat (s : State) (i : StationNo) : State :=
  (((s.enterReleasing i).endOperation i (some .timeout)).noticeFrom s i).sendSets

/-- SEAT_TIMEOUT (R36). -/
def execSeatTimeout (i : StationNo) (s : State) : Host.Outcome State Fault Refusal :=
  .next (if (s.st i).record.seatTimer.isSome && (s.st i).record.state = .seating then s.failSeat i else s)

/-- R40: the latch-open timer of a station in RELEASING runs out. -/
def State.latchStuck (s : State) (i : StationNo) : State :=
  ((s.modRecord i fun r => { r with latchOpenTimer := none }).finding i .latchStuck).sendSets

/-- LATCH_OPEN_TIMEOUT (R40). -/
def execLatchOpenTimeout (i : StationNo) (s : State) : Host.Outcome State Fault Refusal :=
  .next (if (s.st i).record.latchOpenTimer.isSome && (s.st i).record.state = .releasing then s.latchStuck i else s)

/-- SURGE_TIMER_EXPIRY (R104). -/
def execSurgeTimerExpiry (s : State) : Host.Outcome State Fault Refusal :=
  .next (if s.surgeTimer.isSome then { s with surgeTimer := none }.raise .surgeEnd .berth 0 else s)

/-- HOLDOFF_EXPIRY (R113). -/
def execHoldoffExpiry (i : StationNo) (s : State) : Host.Outcome State Fault Refusal :=
  .next (if s.inHoldoff i then (s.endHoldoff i).sendSets else s)

end Sys2Proof.Machine
end

