-- ==== Sys2Proof/Machine/Dispatch.lean ====
section
/-! DEFINITION. The effect of each command on everything but the queue of waiting commands: one arm per row of the opcode table,
in the table's order. -/

namespace Sys2Proof.Machine

def exec (c : Instr) (s : State) : Host.Outcome State Fault Refusal :=
  match c with
  | .powerOn releaseLine quayLine responds n => Sys2Proof.Machine.execPowerOn releaseLine quayLine responds n s
  | .stationReport i bytes => Sys2Proof.Machine.execStationReport i bytes s
  | .reportGapTimeout i => Sys2Proof.Machine.execReportGapTimeout i s
  | .reportLossTimeout i => Sys2Proof.Machine.execReportLossTimeout i s
  | .brakeTimeout i => Sys2Proof.Machine.execBrakeTimeout i s
  | .setWatchExpiry i => Sys2Proof.Machine.execSetWatchExpiry i s
  | .stallTimeout i => Sys2Proof.Machine.execStallTimeout i s
  | .seatTimeout i => Sys2Proof.Machine.execSeatTimeout i s
  | .latchOpenTimeout i => Sys2Proof.Machine.execLatchOpenTimeout i s
  | .surgeTimerExpiry => Sys2Proof.Machine.execSurgeTimerExpiry s
  | .holdoffExpiry i => Sys2Proof.Machine.execHoldoffExpiry i s
  | .vesselReleaseAsserted => Sys2Proof.Machine.execVesselReleaseAsserted s
  | .vesselReleaseDeasserted => Sys2Proof.Machine.execVesselReleaseDeasserted s
  | .eqrTimerExpiry => Sys2Proof.Machine.execEqrTimerExpiry s
  | .quayStopAsserted => Sys2Proof.Machine.execQuayStopAsserted s
  | .quayStopReleased => Sys2Proof.Machine.execQuayStopReleased s
  | .linkReset m => Sys2Proof.Machine.execLinkReset m s
  | .orderFrame m bytes => Sys2Proof.Machine.execOrderFrame m bytes s
  | .orderFrameGapTimeout m => Sys2Proof.Machine.execOrderFrameGapTimeout m s
  | .answerSent m => Sys2Proof.Machine.execAnswerSent m s
  | .runOut order => Sys2Proof.Machine.execRunOut order s
  | .seat order => Sys2Proof.Machine.execSeat order s
  | .release order => Sys2Proof.Machine.execRelease order s
  | .rewind order => Sys2Proof.Machine.execRewind order s
  | .stop order => Sys2Proof.Machine.execStop order s
  | .tend order => Sys2Proof.Machine.execTend order s
  | .clearFault order => Sys2Proof.Machine.execClearFault order s
  | .setServiceOut order => Sys2Proof.Machine.execSetServiceOut order s
  | .setServiceIn order => Sys2Proof.Machine.execSetServiceIn order s
  | .setPhase order => Sys2Proof.Machine.execSetPhase order s
  | .takeLocal order => Sys2Proof.Machine.execTakeLocal order s
  | .giveLocal order => Sys2Proof.Machine.execGiveLocal order s
  | .berthReset order => Sys2Proof.Machine.execBerthReset order s
  | .setParam order => Sys2Proof.Machine.execSetParam order s
  | .getParam order => Sys2Proof.Machine.execGetParam order s
  | .profileSave order => Sys2Proof.Machine.execProfileSave order s
  | .profileSaveEnd faulty => Sys2Proof.Machine.execProfileSaveEnd faulty s
  | .getStation order => Sys2Proof.Machine.execGetStation order s
  | .getBerth order => Sys2Proof.Machine.execGetBerth order s
  | .readHistory order => Sys2Proof.Machine.execReadHistory order s
  | .fetchAlert order => Sys2Proof.Machine.execFetchAlert order s
  | .profileReloadEnd responds => Sys2Proof.Machine.execProfileReloadEnd responds s
  | .framingError m b => Sys2Proof.Machine.execFramingError m b s

end Sys2Proof.Machine
end

