-- ==== Sys2Proof/Safety.lean ====
section
/-! DEFINITION. What a sound state of the part is, in the terms the statements use: the ranges of the manual's quantities, the
table of the brake handshake, the Arbiter's lists, the alert queues, the configuration; and when the Order Unit takes an order. -/

namespace Sys2Proof.Machine

/-! ### Orders -/

/-- R121, R155: an order given on a link is taken at once: its link's slot is empty or holds it already, the transmitter is
idle, the Order Unit is free, and the rotation has come to the link. -/
def State.takesNow (s : State) (m : Master) (o : Order) : Bool :=
  (s.modLink m (Link.place o)).takesPlaced m o

/-- The part as the Order Unit finds it when it has taken an order: the slot freed, the rotation moved on (R121, R155). -/
def State.taken (s : State) (m : Master) (o : Order) : State := (s.modLink m (Link.place o)).freeSlot m

/-- The order that an order row carries, with the link it comes in on; none for a row that is no order (R121, R158). -/
def orderOfRow : Instr → Option (Master × Order)
  | .runOut a => some (a.link, rowOrder .runOut a)
  | .seat a => some (a.link, rowOrder .seat a)
  | .release a => some (a.link, rowOrder .release a)
  | .rewind a => some (a.link, rowOrder .rewind a)
  | .stop a => some (a.link, rowOrder .stop a)
  | .tend a => some (a.link, rowOrder .tend a)
  | .clearFault a => some (a.link, rowOrder .clearFault a)
  | .setServiceOut a => some (a.link, { rowOrder .setService a with params := 0 :: a.params })
  | .setServiceIn a => some (a.link, { rowOrder .setService a with params := 1 :: a.params })
  | .setPhase a => some (a.link, rowOrder .setPhase a)
  | .takeLocal a => some (a.link, rowOrder .takeLocal a)
  | .giveLocal a => some (a.link, rowOrder .giveLocal a)
  | .berthReset a => some (a.link, rowOrder .berthReset a)
  | .setParam a => some (a.link, rowOrder .setParam a)
  | .getParam a => some (a.link, rowOrder .getParam a)
  | .profileSave a => some (a.link, rowOrder .profileSave a)
  | .getStation a => some (a.link, rowOrder .getStation a)
  | .getBerth a => some (a.link, rowOrder .getBerth a)
  | .readHistory a => some (a.link, rowOrder .readHistory a)
  | .fetchAlert a => some (a.link, rowOrder .fetchAlert a)
  | .powerOn _ _ _ _ => none
  | .stationReport _ _ => none
  | .reportGapTimeout _ => none
  | .reportLossTimeout _ => none
  | .brakeTimeout _ => none
  | .setWatchExpiry _ => none
  | .stallTimeout _ => none
  | .seatTimeout _ => none
  | .latchOpenTimeout _ => none
  | .surgeTimerExpiry => none
  | .holdoffExpiry _ => none
  | .vesselReleaseAsserted => none
  | .vesselReleaseDeasserted => none
  | .eqrTimerExpiry => none
  | .quayStopAsserted => none
  | .quayStopReleased => none
  | .linkReset _ => none
  | .orderFrame _ _ => none
  | .orderFrameGapTimeout _ => none
  | .answerSent _ => none
  | .profileSaveEnd _ => none
  | .profileReloadEnd _ => none
  | .framingError _ _ => none

/-- A refusal reason: an outcome of 0x80 and above (R159). -/
def Verdict.refuses (v : Verdict) : Bool := 128 ≤ v.byte.toNat

/-- An order on one station reaches that station's Sequencer: it is taken now, the phase is not STARTING, and its target byte
names the station (R121 to R123). -/
structure ReachesStation (s : State) (m : Master) (o : Order) (i : StationNo) : Prop where
  takes : s.takesNow m o = true
  started : s.phase ≠ .starting
  target : targetOf o.target = .station i

/-- An order on the berth reaches the block it concerns: it is taken now, the phase is not STARTING, and its target byte is 32. -/
structure ReachesBerth (s : State) (m : Master) (o : Order) : Prop where
  takes : s.takesNow m o = true
  started : s.phase ≠ .starting
  target : targetOf o.target = .berth

/-- R122: a row carrying an order is refused: it causes its answer, and nothing more (a command set that was due is sent). -/
def RefusedWith (s : State) (c : Instr) (m : Master) (o : Order) (v : Verdict) : Prop :=
  exec c s = .next (((s.taken m o).answer m o (.plain v)).sendSets)

/-- R123, R158: the nineteen orders: the code, the parameter count, and the kind of target. -/
def orderTable : List (Nat × Nat × TargetKind) :=
  [(0x01, 2, .stationOrder), (0x02, 0, .stationOrder), (0x03, 0, .stationOrder), (0x04, 0, .stationOrder),
   (0x05, 0, .stationOrder), (0x06, 0, .stationOrder), (0x07, 0, .stationOrder), (0x08, 1, .stationOrder),
   (0x10, 1, .berthOrder), (0x11, 0, .groupOrder), (0x12, 0, .groupOrder), (0x13, 0, .berthOrder),
   (0x20, 6, .berthOrder), (0x21, 2, .berthOrder), (0x22, 0, .berthOrder),
   (0x30, 0, .stationQuery), (0x31, 0, .berthOrder), (0x32, 0, .stationQuery), (0x33, 0, .berthOrder)]

/-- R123: the target bytes that an order of a kind takes: 0..15 a station, 16..21 an enabled group, 31 all stations, 32 the berth.
-/
def State.TakesTarget (s : State) (kind : TargetKind) (target : Nat) : Prop :=
  let enabledGroup := ∃ g : GroupNo, target = 16 + g.val ∧ s.params.groups[g].first ≤ 15
  match kind with
  | .stationOrder => target ≤ 15 ∨ enabledGroup ∨ target = 31
  | .stationQuery => target ≤ 15
  | .groupOrder => enabledGroup
  | .berthOrder => target = 32

/-- R122: the first three checks on an order that is taken: which of them fails first, in the numbers of R123 and R158. -/
structure WholeChecks (s : State) (o : Order) (refused : Verdict → Prop) : Prop where
  starting : s.phase = .starting → o.code ≠ 0x21 → o.code ≠ 0x31 → refused .starting
  unknown : (s.phase ≠ .starting ∨ o.code = 0x21 ∨ o.code = 0x31) → (∀ row ∈ orderTable, row.1 ≠ o.code.toNat) →
    refused .unknownOrder
  format : (s.phase ≠ .starting ∨ o.code = 0x21 ∨ o.code = 0x31) → ∀ n kind, (o.code.toNat, n, kind) ∈ orderTable →
    (o.params.length ≠ n ∨ (o.code = 0x08 ∧ ∃ b, o.params = [b] ∧ 1 < b.toNat)) → refused .badFormat
  target : (s.phase ≠ .starting ∨ o.code = 0x21 ∨ o.code = 0x31) → ∀ n kind, (o.code.toNat, n, kind) ∈ orderTable →
    o.params.length = n → (o.code = 0x08 → ∃ b, o.params = [b] ∧ b.toNat ≤ 1) → ¬s.TakesTarget kind o.target.toNat →
    refused .badTarget

/-! ### The terms of the checks, in the rules' words -/

/-- R10: station `i` lies in enabled group `g`: a disabled group's first is 255, above every station. -/
def State.LiesIn (s : State) (i : StationNo) (g : GroupNo) : Prop :=
  s.params.groups[g].first ≤ i.val ∧ i.val ≤ s.params.groups[g].last

/-- R15: a station's latch is closed on the ferry, or is being closed or opened on it. -/
def Station.LatchEngaged (st : Station) : Prop :=
  st.record.state ∈ [LineState.seating, .takeup, .held, .tending, .easing, .releasing]
    ∨ (st.record.state = .faulted ∧ ∃ r, st.port.readings = some r ∧ r.latch ≠ .open)

/-- R16: a station in HELD or TENDING holds. -/
def Station.Holds (st : Station) : Prop := st.record.state = .held ∨ st.record.state = .tending

/-- R124: master `m`'s level on the scope of station `i` is the number `n`: the item of parameter table 4 at index master × 8 +
scope, the scope being the station's group, or 6 while it is in no enabled group. -/
def State.LevelIs (s : State) (m : Master) (i : StationNo) (n : Nat) : Prop :=
  (∃ g, s.LiesIn i g ∧ s.params.read 4 (8 * masterNumber m + g.val) = some n)
    ∨ ((∀ g, ¬s.LiesIn i g) ∧ s.params.read 4 (8 * masterNumber m + 6) = some n)

/-- What the model's terms for the checks of a station order of master `m` on station `i` mean: ORDER is the level 2 of R124 on the
station's scope, and a master may observe at 1 or 2 (R125); the berth scope has index 7; local control and ownership are R126,
R127 and R31; the marks and counts of the berth plan are R15 and R16; and the release gate is R19 in MOORED and R20 in UNMOORING. -/
structure CheckTerms (s : State) (m : Master) (i : StationNo) : Prop where
  authority : s.authority m (s.scopeOf i) = .order ↔ s.LevelIs m i 2
  mayOrder : s.mayOrder m i = true ↔ s.LevelIs m i 2
  mayObserve : s.mayObserve m i = true ↔ s.LevelIs m i 1 ∨ s.LevelIs m i 2
  berthScope : s.authority m 7 = .order ↔ s.params.read 4 (8 * masterNumber m + 7) = some 2
  localControl : s.heldLocal m i = true ↔ m ≠ .quay ∧ ∃ g, s.LiesIn i g ∧ s.localControl[g] = true
  owned : s.ownedByOther m i = true ↔
    (s.st i).record.operation ≠ none ∧ ∃ m', (s.st i).record.owner = some m' ∧ m' ≠ m
  holding : (s.st i).holding = true ↔ (s.st i).Holds
  engaged : (s.st i).engaged = true ↔ (s.st i).LatchEngaged
  group : ∀ g, s.groupOf i = some g ↔ s.LiesIn i g
  count : ∀ (g : GroupNo) (members : List StationNo), members.Nodup → (∀ j, j ∈ members ↔ s.LiesIn j g ∧ (s.st j).Holds) →
    s.holdingCount g = members.length
  minimum : s.belowMinimum i = true ↔
    (s.st i).Holds ∧ ∃ g, s.LiesIn i g ∧ s.holdingCount g - 1 < s.params.groups[g].minimum
  sequence : s.outOfSequence i = true ↔ ∃ g, s.LiesIn i g ∧
    ((∃ k j, s.params.groups[k].rank < s.params.groups[g].rank ∧ s.LiesIn j k ∧ (s.st j).LatchEngaged)
      ∨ (0 < s.params.groups[g].rank ∧ ∃ j, (∀ k, ¬s.LiesIn j k) ∧ (s.st j).LatchEngaged))
  gate : s.releaseGate i = none ↔
    ¬(s.phase = .moored ∧ s.belowMinimum i = true) ∧ ¬(s.phase = .unmooring ∧ s.outOfSequence i = true)

/-- R47: the condition of a fault cause is absent at the most recent report. -/
def Station.ConditionAbsent (st : Station) (cause : FaultCause) : Prop :=
  ∃ r, st.port.readings = some r ∧
    match cause with
    | .latchLost => r.latch = .open ∨ r.latch = .closed
    | .latchStuck => r.latch = .open ∨ r.latch = .closed
    | .brake => r.brake = .set
    | .stall => r.brake = .set
    | .encoder => st.port.reportSinceFault = true
    | .reportLost => st.port.reportSinceFault = true
    | .module => r.moduleFault = false
    | .loadRange => st.tension.saturated = false

/-- Steps 4 to 6 of R122 pass for an operation order of a master on a station. -/
structure MayOperate (s : State) (m : Master) (i : StationNo) : Prop where
  authority : s.mayOrder m i = true
  control : s.heldLocal m i = false
  owner : s.ownedByOther m i = false

/-! ### The end of an operation, and a port made safe -/

/-- R29: a record whose operation in flight has ended: operation, owner and run-out target are absent. With none in flight it is as
it was. -/
def Record.ended (r : Record) : Record :=
  match r.operation with
  | some _ => { r with operation := none, owner := none, runOutTarget := none }
  | none => r

/-- A handshake step runs on the brake timer. -/
def BrakeTimer.isStep : BrakeTimer → Bool
  | .step _ => true
  | .watch _ => false
  | .stopped => false

/-- R69: the port in REST, with the drive OFF, the brake SET and the stall timer stopped. -/
structure Port.AtRest (q : Port) : Prop where
  drive : q.drive = .off
  brake : q.brake = .set
  handshake : q.handshake = .rest
  stallTimer : q.stallTimer = none

/-- R69, R74, R151: the brake timer of a port `p` made safe as `q`: where the brake command was FREE a set watch of the brake
timeout starts; where it was SET a running handshake step is stopped, and a set watch runs on. -/
structure BrakeMadeSafe (timeout : Nat) (p q : Port) : Prop where
  freed : p.brake = .free → q.brakeTimer = .watch timeout
  step : p.brake = .set → p.brakeTimer.isStep = true → q.brakeTimer = .stopped
  kept : p.brake = .set → p.brakeTimer.isStep = false → q.brakeTimer = p.brakeTimer

/-- What a report, a timer or a station order leaves as it is: the configuration, the local-control flags, the profile's status,
a save, a reload or an order under way, the profile memory, the waiting commands and the two safety lines. -/
structure SameBerth (s t : State) : Prop where
  params : t.params = s.params
  localControl : t.localControl = s.localControl
  profile : t.profile = s.profile
  saving : t.saving = s.saving
  reload : t.reload = s.reload
  memory : t.memory = s.memory
  pending : t.pending = s.pending
  underWay : t.underWay = s.underWay
  releaseLine : t.releaseLine = s.releaseLine
  quayStop : t.quayStop = s.quayStop

/-- The quick release and the surge timer as they were. -/
structure SameWatch (s t : State) : Prop where
  eqr : t.eqr = s.eqr
  eqrTimer : t.eqrTimer = s.eqrTimer
  surgeTimer : t.surgeTimer = s.surgeTimer

/-- The link interfaces and the rotation as they were. -/
structure SameLinks (s t : State) : Prop where
  links : t.links = s.links
  nextLink : t.nextLink = s.nextLink

/-- What a port has from its module's reports, which only its own reports and its own timers change (R59). -/
structure SameSensed (p q : Port) : Prop where
  readings : q.readings = p.readings
  encoder : q.encoder = p.encoder
  block : q.block = p.block
  reportSinceFault : q.reportSinceFault = p.reportSinceFault
  reportLossTimer : q.reportLossTimer = p.reportLossTimer

/-- Every station but `i` keeps its record, its tension items, and what its port has from its reports. The commands of another
port may change, where the Arbiter gives that station a grant or takes it back. -/
def OthersKept (i : StationNo) (s t : State) : Prop :=
  ∀ j, j ≠ i → (t.st j).record = (s.st j).record ∧ (t.st j).tension = (s.st j).tension ∧ SameSensed (s.st j).port (t.st j).port

/-- The answer that a taken order gets on its link, and the other links as they were (R121, R155, R156). -/
structure Answered (s t : State) (m : Master) (o : Order) (r : Reply) : Prop where
  sending : (t.link m).sending = some (answerFrame o.code o.tag r)
  waiting : (t.link m).waiting = none
  receiver : (t.link m).receiver = (s.link m).receiver
  rotation : t.nextLink = nextMaster m
  others : ∀ m', m' ≠ m → t.link m' = s.link m'

/-! ### Orders on several stations -/

/-- The nine rows of station orders, each with the number of parameter bytes that the row carries (R123, R158). The two SET_SERVICE
rows have their service byte from the row itself. -/
def stationRows : List ((OrderArgs → Instr) × Nat) :=
  [(.runOut, 2), (.seat, 0), (.release, 0), (.rewind, 0), (.stop, 0), (.tend, 0), (.clearFault, 0), (.setServiceOut, 0),
   (.setServiceIn, 0)]

/-- The part with a link's slot empty, its transmitter idle, and the rotation at that link, so that an order given on it is taken
at once. -/
def State.readyFor (s : State) (m : Master) : State :=
  { s.modLink m (fun l => { l with waiting := none, sending := none }) with nextLink := m }

/-- The outcome byte of the answer that a link is sending; none while it sends nothing (R156). -/
def State.outcomeOn (s : State) (m : Master) : Option Byte := (s.link m).sending.bind fun frame => frame[4]?

/-- An order row given for each station of a list in turn, each time aimed at that station alone; the outcome byte that each gets,
beside the part as the last leaves it; none where an order does not complete with an answer. -/
def inTurn (row : OrderArgs → Instr) (a : OrderArgs) : List StationNo → State → Option (State × List (StationNo × Byte))
  | [], s => some (s, [])
  | i :: rest, s =>
    match exec (row { a with target := byteOf i.val }) (s.readyFor a.link) with
    | .next t =>
      match t.outcomeOn a.link, inTurn row a rest t with
      | some b, some r => some (r.1, (i, b) :: r.2)
      | _, _ => none
    | .fault _ => none
    | .refused _ => none

/-- An outcome byte below 0x80: the order was taken (R159). -/
def takenByte (b : Byte) : Bool := b.toNat < 128

/-- The part without what the Order Unit and the link interfaces hold, and without the model's count of the command sets sent
(log 12): a set that was due when an order was taken goes before the first station's turn. -/
def State.blocks (s : State) : State :=
  { s with
    links := State.reset.links
    nextLink := State.reset.nextLink
    underWay := none
    stations := s.stations.map fun st => { st with port := { st.port with sends := 0 } } }

/-- The Order Unit left to itself for `n` turns, with no event between them (log 9, 10). -/
def State.served : Nat → State → State
  | 0, s => s
  | n + 1, s => State.served n s.serveNext

/-- The order under way, if there is one, worked to its end with no event between: a turn for each station left, and the answer
(R121). -/
def State.servedOut (s : State) : State :=
  match s.underWay with
  | some w => s.served (w.rest.length + 1)
  | none => s

/-! ### Alerts that an event raises -/

/-- Alerts raised one after another, each with the owner of the operation that ended, if any (R138, R140). -/
def State.raiseAll (s : State) (alerts : List (Alert × Option Master)) : State :=
  alerts.foldl (fun t a => t.raiseBy t.params.routing a.1 a.2) s

/-- From `s` to `t` the alert queues change by alerts raised in order: those named, and between them none but of the kinds in
`among`. -/
def Raised (s t : State) (named : List (Alert × Option Master)) (among : List AlertKind) : Prop :=
  ∃ alerts : List (Alert × Option Master),
    alerts.filter (fun a => a.1.kind ∉ among) = named ∧ t.mailboxes = (s.raiseAll alerts).mailboxes

/-- The kinds that follow from a change of a station's state: a preemption (R112), a phase (R2), a group short (R17). -/
def followKinds : List AlertKind := [.preempted, .phase, .planShort]

/-- The alert of the operation in flight on station `i`, failing for a reason (R30); none when none is in flight. -/
def State.failedAlert (s : State) (i : StationNo) (why : FailReason) : List (Alert × Option Master) :=
  match (s.st i).record.operation with
  | some _ => [(⟨.opFailed, .station i, why.code⟩, (s.st i).record.owner)]
  | none => []

/-- The alert of the operation in flight on station `i`, completing (R30); none when none is in flight. -/
def State.doneAlert (s : State) (i : StationNo) : List (Alert × Option Master) :=
  match (s.st i).record.operation with
  | some op => [(⟨.opDone, .station i, op.code⟩, (s.st i).record.owner)]
  | none => []

/-- R151: the alerts of the operations that a firing ends, in ascending station number (log 7). -/
def State.firingAlerts (s : State) : List (Alert × Option Master) :=
  allStations.flatMap fun i =>
    if !(s.st i).settling && [LineState.payout, .seating, .takeup, .held, .tending, .easing].contains (s.st i).record.state then
      s.failedAlert i .emergency
    else []

/-! ### Power-on values, in numbers -/

/-- R14, R77, R90, R124, R134, R139: every item that GET_PARAM can read, at its default: the eleven of each station, the four of
each group, the three levels of each alert kind, ORDER for each master and scope, the fourteen berth items. -/
structure AtDefaults (p : Params) : Prop where
  station : ∀ i : StationNo, (List.range 12).map (fun k => p.read 1 (16 * i.val + k))
    = [some 0, some 400, some 2, some 300, some 400, some 550, some 30, some 1500, some 50, some 5, some 40000, none]
  group : ∀ g : GroupNo, (List.range 4).map (fun k => p.read 2 (4 * g.val + k)) = [some 255, some 15, some 0, some 0]
  routing : (List.range 16).map (fun k => (List.range 3).map fun m => p.read 3 (4 * k + m))
    = [[some 0, some 0, some 0], [some 1, some 0, some 0], [some 2, some 2, some 3], [some 2, some 2, some 3],
       [some 1, some 1, some 2], [some 1, some 1, some 1], [some 1, some 2, some 1], [some 3, some 3, some 3],
       [some 1, some 1, some 1], [some 1, some 0, some 0], [some 3, some 3, some 3], [some 3, some 3, some 3],
       [some 2, some 2, some 2], [some 2, some 2, some 1], [some 1, some 0, some 0], [some 0, some 0, some 1]]
  authority : ∀ k, k < 24 → p.read 4 k = some 2
  berth : (List.range 15).map (p.read 5)
    = [some 4, some 8000, some 5000, some 1000, some 2000, some 250, some 250, some 10000, some 3000, some 2000, some 1, some 1,
       some 1, some 0, none]

/-- R23, R76, R93: the record and the tension items of a station at power-on, settling from it. -/
structure AtPowerOn (st : Station) : Prop where
  record : st.record = {
    state := .slack, recon := some .powerOn, operation := none, owner := none, runOutTarget := none,
    tendingHold := false, faultCause := none, faultCount := 0, payoutLength := none, tending := none, latchCommand := .none,
    seatTimer := none, latchOpenTimer := none }
  tension : st.tension = {
    scaled := none, saturated := false, saturationRun := 0, filtered := none, seedPending := true,
    history := [], hi := 0, lo := 0 }

/-! ### The Arbiter after an event -/

/-- R109, R112, R119: from `s` to `t` the Arbiter makes its tests. With the quay stop released it grants to the head of the queue,
one after another, while the grants in use are below the limit, each grant the last holder with the next grant time. Then, with the
quay stop released and the grants in use at or above the limit, it preempts as many active class-2 holders as there are class-0
entries more than returning holders, or as many as there are: those with the latest grant times, the latest first. Each raises
PREEMPTED with the preempted station as subject and the number of the station at the queue head as detail; `later` are the event's
alerts after these. -/
def ArbiterTested (s t : State) (later : List (Alert × Option Master)) : Prop :=
  let n := if s.quayStop then 0 else min (s.berth.grantLimit - s.holders.length) s.queue.length
  let queue := s.queue.drop n
  let granted := s.holders ++ (s.queue.take n).mapIdx fun k e => ⟨e.station, e.cls, .active, s.nextGrant + k⟩
  let stoppable := granted.filter fun h => h.condition = .active && h.cls = 2
  let returning := granted.filter fun h => h.condition ≠ .active
  t.queue = queue ∧ t.nextGrant = s.nextGrant + n
    ∧ ∃ victims : List Holder, victims.Nodup ∧ (∀ v ∈ victims, v ∈ stoppable)
      ∧ victims.length
          = (if s.quayStop ∨ granted.length < s.berth.grantLimit then 0
             else min ((queue.filter fun e => e.cls = 0).length - returning.length) stoppable.length)
      ∧ victims.Pairwise (fun v w => w.grantTime ≤ v.grantTime)
      ∧ (∀ h ∈ stoppable, h ∉ victims → ∀ v ∈ victims, h.grantTime ≤ v.grantTime)
      ∧ t.holders = granted.map (fun h => if h ∈ victims then { h with condition := .returning .preempted } else h)
      ∧ (∀ e ∈ s.queue.take n, (∀ v ∈ victims, v.station ≠ e.station) →
          (t.st e.station).port.handshake = .freeing ∧ (t.st e.station).port.drive = .hold
            ∧ (t.st e.station).port.brake = .free ∧ (t.st e.station).port.brakeTimer = .step s.berth.brakeTimeout)
      ∧ (∀ v ∈ victims, (s.st v.station).port.handshake = .freeing ∨ (s.st v.station).port.handshake = .driving →
          (t.st v.station).port.handshake = .setting ∧ (t.st v.station).port.drive = .hold
            ∧ (t.st v.station).port.brake = .set ∧ (t.st v.station).port.brakeTimer = .step s.berth.brakeTimeout)
      ∧ t.mailboxes = (s.raiseAll (victims.map (fun v => (⟨.preempted, .station v.station,
            match queue with | e :: _ => e.station.val | [] => 0⟩, none)) ++ later)).mailboxes

/-- R114: which holders a limit lowered to `limit` stops: as many as there are active holders above it, class 2 before class 1
before class 0, and within a class the latest grant time first. -/
structure SurplusStopped (holders : List Holder) (limit : Nat) (stopped : List Holder) : Prop where
  distinct : stopped.Nodup
  active : ∀ h ∈ stopped, h ∈ holders ∧ h.condition = .active
  number : stopped.length = (holders.filter fun h => h.condition = .active).length - limit
  order : ∀ h ∈ holders, h.condition = .active → h ∉ stopped → ∀ k ∈ stopped,
    h.cls < k.cls ∨ (h.cls = k.cls ∧ h.grantTime ≤ k.grantTime)

/-! ### The berth plan after an event -/

/-- R5: some station is holding, and every enabled group with a minimum above 0 has its minimum. -/
def MooredReached (t : State) : Prop :=
  (∃ j, (t.st j).record.state = .held ∨ (t.st j).record.state = .tending)
    ∧ ∀ g, (t.group g).enabled = true → 0 < (t.group g).minimum → (t.group g).minimum ≤ t.holdingCount g

/-- R15: no station is latch-engaged. -/
def NoneEngaged (t : State) : Prop := ∀ j, (t.st j).engaged = false

/-- R17: the group of station `i`, if the fall of its holding count from `s` to `t` in MOORED brings it below its minimum while its
short flag is clear. -/
def fallenShort (s t : State) (i : StationNo) : Option GroupNo :=
  match s.groupOf i with
  | some g =>
    if (s.st i).holding && !(t.st i).holding && !s.shortFlags[g] && t.holdingCount g < (s.group g).minimum then some g else none
  | none => none

/-- R17: the group of station `i`, if the rise of its holding count from `s` to `t` in MOORED brings it to its minimum or above. -/
def risenAgain (s t : State) (i : StationNo) : Option GroupNo :=
  match s.groupOf i with
  | some g => if !(s.st i).holding && (t.st i).holding && (s.group g).minimum ≤ t.holdingCount g then some g else none
  | none => none

/-- R17: the short flags after a state notice of station `i` in MOORED. -/
def flagsAfter (s t : State) (i : StationNo) : Vector Bool 6 :=
  match fallenShort s t i, risenAgain s t i with
  | some g, _ => setFlag s.shortFlags g true
  | none, some g => setFlag s.shortFlags g false
  | none, none => s.shortFlags

/-- R2, R17: what the Berth Plan Unit raises at a state notice of station `i`: PHASE with the code of a new phase, or in MOORED
PLAN_SHORT for a group that falls short, with its holding count. -/
def planAlerts (s t : State) (i : StationNo) : List (Alert × Option Master) :=
  if t.phase ≠ s.phase then [(⟨.phase, .berth, t.phase.code⟩, none)]
  else
    match s.phase, fallenShort s t i with
    | .moored, some g => [(⟨.planShort, .group g, t.holdingCount g⟩, none)]
    | _, _ => []

/-- R2, R5, R6, R17: outside STARTING, an event that changes the state of station `i` alone takes the berth plan from `s` to `t` by
that station's notice, after the alerts named. ALONGSIDE becomes MOORED where the station's holding mark has changed and the
condition of R5 then holds; UNMOORING becomes VACANT where it was the last latch-engaged station and has ceased to be; in MOORED
the group's short flag follows its holding count; nothing else changes the phase or a short flag. -/
structure PlanFollows (s t : State) (i : StationNo) (named : List (Alert × Option Master)) : Prop where
  moored : s.phase = .alongside → ((s.st i).holding ≠ (t.st i).holding ∧ MooredReached t) →
    t.phase = .moored ∧ t.shortFlags = Vector.replicate 6 false
  alongside : s.phase = .alongside → ¬((s.st i).holding ≠ (t.st i).holding ∧ MooredReached t) →
    t.phase = .alongside ∧ t.shortFlags = s.shortFlags
  vacant : s.phase = .unmooring → ¬NoneEngaged s → NoneEngaged t → t.phase = .vacant
  unmooring : s.phase = .unmooring → ¬NoneEngaged t → t.phase = .unmooring
  short : s.phase = .moored → t.phase = .moored ∧ t.shortFlags = flagsAfter s t i
  others : s.phase = .vacant ∨ s.phase = .emergency → t.phase = s.phase
  flags : s.phase = .unmooring ∨ s.phase = .vacant ∨ s.phase = .emergency → t.shortFlags = s.shortFlags
  alerts : Raised s t (named ++ planAlerts s t i) [.preempted]

/-- R3: the phase that follows STARTING, from the stations as `t` has them. -/
structure ComputedPhase (t : State) : Prop where
  vacant : NoneEngaged t → t.phase = .vacant
  moored : ¬NoneEngaged t → MooredReached t → t.phase = .moored
  alongside : ¬NoneEngaged t → ¬MooredReached t → t.phase = .alongside

/-- R150: the alert of the release line found asserted at the end of STARTING. -/
def armingAlert (s : State) : List (Alert × Option Master) :=
  if s.releaseLine then [(⟨.eqrArming, .berth, 0⟩, none)] else []

/-- R3, R150, R163, R170: STARTING has ended: the computed phase is entered with PHASE, and after that the release line is evaluated
once: asserted, it arms the quick release with EQR_ARMING. -/
structure StartingEnds (s t : State) (named : List (Alert × Option Master)) : Prop where
  phase : ComputedPhase t
  flags : t.shortFlags = if t.phase = .moored then Vector.replicate 6 false else s.shortFlags
  armed : s.releaseLine = true → t.eqr = .arming ∧ t.eqrTimer = some s.berth.eqrHold
  idle : s.releaseLine = false → t.eqr = s.eqr ∧ t.eqrTimer = s.eqrTimer
  alerts : Raised s t (named ++ [(⟨.phase, .berth, t.phase.code⟩, none)] ++ armingAlert s) [.preempted]

/-- R3, R163, R170: an event of STARTING that may settle a station. With a station still settling, or the reload of a berth reset
under way, STARTING goes on. -/
structure StartingFollows (s t : State) (named : List (Alert × Option Master)) : Prop where
  ends : s.reload = none → (∀ j, (t.st j).settling = false) → StartingEnds s t named
  goesOn : (s.reload ≠ none ∨ ∃ j, (t.st j).settling = true) →
    t.phase = .starting ∧ t.shortFlags = s.shortFlags ∧ t.eqr = s.eqr ∧ t.eqrTimer = s.eqrTimer
      ∧ Raised s t named [.preempted]

/-! ### Drives -/

/-- R70: the commands and timers of a port in each handshake phase. -/
def Port.matchesPhase (p : Port) : Bool :=
  match p.handshake with
  | .rest => p.drive = .off && p.brake = .set && p.stallTimer = none && !p.brakeTimer.isStep
  | .freeing => p.drive = .hold && p.brake = .free && p.stallTimer = none && p.brakeTimer.isStep
  | .driving => (p.drive = .haul || p.drive = .pay) && p.brake = .free && p.brakeTimer = .stopped && p.stallTimer.isSome
  | .setting => p.drive = .hold && p.brake = .set && p.stallTimer = none && p.brakeTimer.isStep

/-- R107: how a station's standing as a holder and its port's handshake phase belong together: no grant in REST, an active
holder in FREEING and DRIVING, a returning one in SETTING. -/
def holderMatches (h : Option Holder) (p : Handshake) : Bool :=
  match h, p with
  | none, .rest => true
  | some h, .freeing => h.active
  | some h, .driving => h.active
  | some h, .setting => !h.active
  | _, _ => false

/-- R107, R108: no station stands twice in the Arbiter's lists. -/
def State.arbiterDistinct (s : State) : Bool :=
  decide ((s.holders.map Holder.station ++ s.queue.map QueueEntry.station ++ s.holdoffs.map Holdoff.station).Nodup)

/-- R108: an entry of the front part stands before the back part, and in the front part the earlier grant time first. -/
def frontOrdered : Option Nat → Option Nat → Bool
  | some t, some u => t ≤ u
  | some _, none => true
  | none, none => true
  | none, some _ => false

/-- R108: entry `e` may stand before entry `f`. -/
def QueueEntry.ordered (e f : QueueEntry) : Bool := e.cls < f.cls || (e.cls = f.cls && frontOrdered e.front f.front)

/-- R108: the grant queue stands in queue order. -/
def State.queueOrdered (s : State) : Bool := decide (s.queue.Pairwise fun e f => e.ordered f = true)

/-- R111, R112: the class at which a holder must find its station's drive request: an active holder its recorded class, a
preempted one class 2. -/
def Holder.requestFits (h : Holder) (request : Option (Nat × Direction)) : Bool :=
  match h.condition with
  | .active => request.map Prod.fst = some h.cls
  | .returning .preempted => request.map Prod.fst = some 2
  | .returning .requeue => true
  | .returning .ended => true

/-- R111, R118: what stands in the queue, in holdoff or as a holder has the drive request that belongs to it. -/
def State.requestsMatch (s : State) : Bool :=
  s.holders.all (fun h => h.requestFits (s.st h.station).request)
    && s.queue.all (fun e => (s.st e.station).request.map Prod.fst = some e.cls)
    && s.holdoffs.all (fun h => (s.st h.station).request.map Prod.fst = some 2)

/-- R93: tending is of class 0 or 1. -/
def Station.tendingClassFits (st : Station) : Bool :=
  match st.record.tending with
  | some t => t.cls ≤ 1
  | none => true

/-- R45, R48, R53: a station that can make no use of the drive: settling, FAULTED or OUT_OF_SERVICE. -/
def Station.driveless (st : Station) : Bool := st.settling || st.record.state = .faulted || st.record.state = .outOfService

/-- R70, R107, R48, R53: what holds of one station's drive. -/
def State.driveFits (s : State) (i : StationNo) : Bool :=
  (s.st i).port.matchesPhase && holderMatches (s.holderOf i) (s.st i).port.handshake && (s.st i).tendingClassFits
    && (!(s.st i).driveless || s.driveStatus i = .idle)

/-- R70, R71, R107, R108, R111: ports, holders, queue and requests agree. -/
def State.drivesSound (s : State) : Bool :=
  allStations.all s.driveFits && s.arbiterDistinct && s.queueOrdered && s.requestsMatch

/-- R109, R112: the Arbiter owes no grant and no preemption. -/
def State.arbiterSettled (s : State) : Bool := !s.canGrant && s.preemptOne.isNone

/-! ### Reports -/

/-- The block that carries a report, as station `i`'s module sends it (section 3.2). -/
def reportBlock (i : StationNo) (r : Report) : List Byte :=
  let body :=
    byteOf i.val :: le16 r.readings.loadSample.toNat ++ le16 r.encoder.toNat ++ [byteOf (sensorBits (some r.readings))]
  body ++ checkBytes body

/-- The filtered tension of station `i` after a report (R79 to R83). -/
def State.reportTension (s : State) (i : StationNo) (r : Readings) : Nat :=
  (s.st i).tension.filterTo (s.calibration i).filterShift (limitTension (s.sampleTension i r))

/-- The payout length of station `i` after a report (R64 to R66). -/
def State.reportLength (s : State) (i : StationNo) (r : Report) : Option Nat :=
  newLength (s.st i).record.payoutLength (encoderDifference (s.st i).port.encoder r.encoder) r.readings.endStop

/-- The report brings a jump of the encoder count (R65). -/
def State.jumps (s : State) (i : StationNo) (r : Report) : Bool := isJump (encoderDifference (s.st i).port.encoder r.encoder)

/-- The report brings a LOAD_RANGE finding: its sample is saturated and the run then stands at 16 (R80). -/
def State.overRange (s : State) (i : StationNo) (r : Report) : Bool :=
  maxTension < s.sampleTension i r.readings && 15 ≤ (s.st i).tension.saturationRun

/-- The report brings a surge detection (R82). -/
def State.surges (s : State) (i : StationNo) (r : Report) : Bool :=
  (s.st i).tension.surges s.berth.surgeStep (limitTension (s.sampleTension i r.readings))

/-- R103: the report starts the stopped surge timer. -/
def State.startsSurge (s : State) (i : StationNo) (r : Report) : Bool :=
  (s.st i).computed && s.surges i r && s.surgeTimer.isNone

/-- R93, R105: a station in TENDING with direction HAUL. -/
def Station.hauls (st : Station) : Bool :=
  st.record.state = .tending && st.record.tending.map Tending.direction = some .haul

/-- R103: the alert of a report that starts the surge timer. -/
def State.surgeAlert (s : State) (i : StationNo) (r : Report) : List (Alert × Option Master) :=
  if s.startsSurge i r then [(⟨.surgeStart, .berth, i.val⟩, none)] else []

/-- What the model's terms for a report of station `i` mean: settling and the finding acted on are R49 and R53, the stations whose
tension is computed R78; a jump is R65, the saturation of stages 1 and 2 R80, the filtered tension R81 and R83; a surge detection
is R82, of the limited sample against the filtered tension before it, with a surge step of 0 finding none and a seeding sample
making no test; a BRAKE finding is FREE in REST, but on a settling station and while a set watch runs, and at the expiry of that
watch FREE in the latest report, but on a settling station (R74); LATCH_LOST watches the four seated states (R50); the drive request
is R25's. In the clauses brake and latch the exemption of a settling station on every report, that of the reconstruction alone
being R74's, is the model's reading (log 16), and in the clauses tension and surge the case of no filtered tension is (log 5). -/
structure ReportTerms (s : State) (i : StationNo) (r : Report) : Prop where
  settling : (s.st i).settling = true ↔ ∃ why, (s.st i).record.recon = some why
  computed : (s.st i).computed = true ↔ (s.st i).record.state ≠ .outOfService ∨ (s.st i).settling = true
  acts : (s.st i).actsOnFinding = true ↔
    (s.st i).settling = true ∨ ((s.st i).record.state ≠ .faulted ∧ (s.st i).record.state ≠ .outOfService)
  jump : s.jumps i r = true ↔ ∃ p, (s.st i).port.encoder = some p ∧ 2048 < (r.encoder - p).toInt.natAbs
  range : s.overRange i r = true ↔
    4000 < scaleSample (s.calibration i) r.readings.loadSample.toNat ∧ min 16 ((s.st i).tension.saturationRun + 1) = 16
  tension :
    let limited := min 4000 (scaleSample (s.calibration i) r.readings.loadSample.toNat)
    let k := (s.calibration i).filterShift
    (((s.st i).tension.seedPending = true ∨ (s.st i).tension.filtered = none) → s.reportTension i r.readings = limited)
      ∧ ∀ f, (s.st i).tension.seedPending = false → (s.st i).tension.filtered = some f →
          (k = 0 → s.reportTension i r.readings = limited)
            ∧ (0 < k → s.reportTension i r.readings = ((f : Int) + convergent ((limited : Int) - f) (2 ^ k)).toNat)
  surge : s.surges i r = true ↔
    (s.st i).tension.seedPending = false ∧ 0 < s.berth.surgeStep
      ∧ ∃ f, (s.st i).tension.filtered = some f
          ∧ s.berth.surgeStep
              ≤ ((min 4000 (scaleSample (s.calibration i) r.readings.loadSample.toNat) : Nat) - (f : Int)).natAbs
  starts : s.startsSurge i r = true ↔ (s.st i).computed = true ∧ s.surges i r = true ∧ s.surgeTimer = none
  brake : ∀ reading, (s.st i).brakeFinding reading = true ↔
    (s.st i).port.handshake = .rest ∧ reading = .free ∧ (s.st i).settling = false
      ∧ ∀ d, (s.st i).port.brakeTimer ≠ .watch d
  watch : (s.st i).watchFails = true ↔
    (s.st i).settling = false ∧ ∃ latest, (s.st i).port.readings = some latest ∧ latest.brake = .free
  latch : ∀ reading, (s.st i).latchLost reading = true ↔
    (s.st i).settling = false ∧ (reading = .open ∨ reading = .moving)
      ∧ (s.st i).record.state ∈ [LineState.takeup, .held, .tending, .easing]
  request : ∀ cls d, (s.st i).request = some (cls, d) ↔
    ((s.st i).record.state, cls, d)
        ∈ [(LineState.payout, 2, Direction.pay), (.takeup, 1, .haul), (.easing, 1, .pay), (.rewinding, 2, .haul)]
      ∨ ((s.st i).record.state = .tending ∧ (s.st i).record.tending = some ⟨d, cls⟩)

/-- What a report of station `i` leaves beside the station itself: the berth's own items and the links as they were; the surge
timer started or reloaded by a surge detection (R103); of the other stations those in TENDING HAUL gone to HELD with their counters
0 where the timer starts (R105), and the rest as they were. -/
structure ReportFrame (i : StationNo) (s t : State) (r : Report) : Prop where
  berth : SameBerth s t
  links : SameLinks s t
  surgeTimer : t.surgeTimer = if (s.st i).computed && s.surges i r then some s.berth.surgeHold else s.surgeTimer
  sensed : ∀ j, j ≠ i → SameSensed (s.st j).port (t.st j).port
  hauls : ∀ j, j ≠ i → s.startsSurge i r = true → (s.st j).hauls = true →
    (t.st j).record = { (s.st j).record with state := .held, tending := none }
      ∧ (t.st j).tension = { (s.st j).tension with hi := 0, lo := 0 }
  others : ∀ j, j ≠ i → s.startsSurge i r = false ∨ (s.st j).hauls = false →
    (t.st j).record = (s.st j).record ∧ (t.st j).tension = (s.st j).tension

/-- A report at a station that is not settling, with no partial block before it, that brings no finding of the port or the
Tension Unit (R49). -/
structure PlainReport (s : State) (i : StationNo) (r : Report) : Prop where
  block : (s.st i).port.block = []
  settled : (s.st i).settling = false
  reload : s.reload = none
  module : r.readings.moduleFault = false
  jump : s.jumps i r = false
  range : s.overRange i r = false
  brake : (s.st i).brakeFinding r.readings.brake = false

/-- Whether a payout length leaves room to pay (R95). -/
def roomToPay (length : Option Nat) (maxPayout : Nat) : Bool :=
  match length with
  | none => true
  | some n => n < maxPayout

/-- R92, R95 to R97, R101: the keeping step on a report's filtered tension of station `i` in HELD, its tending hold clear and its
dwell counters `hi0` and `lo0`, with the surge timer running or not; `kept` is its record when nothing changes. -/
structure KeptInHeld (s t : State) (i : StationNo) (r : Report) (kept : Record) (hi0 lo0 : Nat) (surging : Bool) : Prop where
  trip : (s.band i).trip ≤ s.reportTension i r.readings → roomToPay (s.reportLength i r) (s.band i).maxPayout = true →
    (t.st i).record = { kept with state := .tending, tending := some ⟨.pay, 0⟩ }
      ∧ Raised s t (s.surgeAlert i r ++ [(⟨.overload, .station i, 1⟩, none)]) (.eqrArming :: followKinds)
  tripNoRoom : (s.band i).trip ≤ s.reportTension i r.readings → roomToPay (s.reportLength i r) (s.band i).maxPayout = false →
    (t.st i).record = kept
      ∧ Raised s t (s.surgeAlert i r ++ [(⟨.overload, .station i, 4⟩, none), (⟨.lengthLimit, .station i, 3⟩, none)])
          (.eqrArming :: followKinds)
  dwell :
    let b := s.band i
    let f := s.reportTension i r.readings
    let room := roomToPay (s.reportLength i r) b.maxPayout
    let hi := if b.high < f then min b.dwell (min hi0 b.dwell + 1) else 0
    let lo :=
      if b.high < f then 0
      else if f < b.low then if surging then min lo0 b.dwell else min b.dwell (min lo0 b.dwell + 1)
      else 0
    f < b.trip →
      (b.dwell ≤ hi → room = true →
        (t.st i).record = { kept with state := .tending, tending := some ⟨.pay, 1⟩ }
          ∧ Raised s t (s.surgeAlert i r) (.eqrArming :: followKinds))
      ∧ (b.dwell ≤ hi → room = false →
          (t.st i).record = kept ∧ (t.st i).tension.hi = b.dwell - 1
            ∧ Raised s t (s.surgeAlert i r ++ [(⟨.lengthLimit, .station i, 1⟩, none)]) (.eqrArming :: followKinds))
      ∧ (hi < b.dwell → b.dwell ≤ lo → surging = false →
          (t.st i).record = { kept with state := .tending, tending := some ⟨.haul, 1⟩ }
            ∧ Raised s t (s.surgeAlert i r) (.eqrArming :: followKinds))
      ∧ (hi < b.dwell → (lo < b.dwell ∨ surging = true) →
          (t.st i).record = kept ∧ (t.st i).tension.hi = hi ∧ (t.st i).tension.lo = lo
            ∧ Raised s t (s.surgeAlert i r) (.eqrArming :: followKinds))

/-- The Sequencer's work on the report left station `i` in its state, with its tending as it was. -/
def SameState (s t : State) (i : StationNo) : Prop :=
  (t.st i).record.state = (s.st i).record.state ∧ (t.st i).record.tending = (s.st i).record.tending

/-- R110, R113, R115: where station `i`, returning as holder `h`, stands when its grant has come back: idle when its state makes no
request; in holdoff after a preemption, or with a preempt holdoff of 0 at the tail of class 2; after a lowered limit or the quay
stop in the front part of its class, at its grant time; after a motion of its own that has ended, at the tail of its class, where
its state has made a new request meanwhile; and in place of a queue entry granted anew, if it comes to the head and a grant is
free. -/
structure GrantReturned (s t : State) (i : StationNo) (h : Holder) : Prop where
  idle : (s.st i).request = none → t.driveStatus i = .idle
  holdoff : (s.st i).request.isSome = true → h.condition = .returning .preempted → s.berth.preemptHoldoff ≠ 0 →
    t.driveStatus i = .holdoff ∧ ⟨i, s.berth.preemptHoldoff⟩ ∈ t.holdoffs
  noHoldoff : (s.st i).request.isSome = true → h.condition = .returning .preempted → s.berth.preemptHoldoff = 0 →
    t.driveStatus i = .granted ∨ t.queuedAs i = some ⟨i, 2, none⟩
  requeued : ∀ cls d, (s.st i).request = some (cls, d) → h.condition = .returning .requeue →
    t.driveStatus i = .granted ∨ t.queuedAs i = some ⟨i, cls, some h.grantTime⟩
  asked : ∀ cls d, (s.st i).request = some (cls, d) → h.condition = .returning .ended →
    t.driveStatus i = .granted ∨ t.queuedAs i = some ⟨i, cls, none⟩
  atRest : t.driveStatus i ≠ .granted →
    (t.st i).port.handshake = .rest ∧ (t.st i).port.drive = .off ∧ (t.st i).port.brake = .set
      ∧ (t.st i).port.brakeTimer = .stopped
  anew : t.driveStatus i = .granted →
    (t.st i).port.handshake = .freeing ∧ (t.st i).port.drive = .hold ∧ (t.st i).port.brake = .free
      ∧ (t.st i).port.brakeTimer = .step s.berth.brakeTimeout

/-- R70 to R73: what a report's brake reading does to the handshake of station `i`, on a report without an earlier finding. The
first two say it where the station still has its drive request when the report's work is done, the others where it is still in its
state: the Sequencer's work on the same report may end or change the motion after the brake test. -/
structure BrakeFollows (s t : State) (i : StationNo) (reading : Brake) : Prop where
  freed : ∀ cls d, (s.st i).port.handshake = .freeing → reading = .free → (t.st i).request = some (cls, d) →
    (t.st i).port.handshake = .driving ∧ (t.st i).port.drive = d.drive ∧ (t.st i).port.brake = .free
      ∧ (t.st i).port.brakeTimer = .stopped ∧ (t.st i).port.stallTimer = some s.berth.stallInterval
  applied : (s.st i).port.handshake = .driving → reading = .set → (t.st i).request.isSome = true →
    (t.st i).port.handshake = .freeing ∧ (t.st i).port.drive = .hold ∧ (t.st i).port.brake = .free
      ∧ (t.st i).port.brakeTimer = .step s.berth.brakeTimeout ∧ (t.st i).port.stallTimer = none
  set : ∀ h, (s.st i).port.handshake = .setting → reading = .set → s.holderOf i = some h → SameState s t i →
    GrantReturned s t i h
  waits : ((s.st i).port.handshake = .freeing ∧ reading = .set) ∨ ((s.st i).port.handshake = .driving ∧ reading = .free)
      ∨ ((s.st i).port.handshake = .setting ∧ reading = .free) → SameState s t i →
    (t.st i).port.handshake = (s.st i).port.handshake ∧ (t.st i).port.drive = (s.st i).port.drive
      ∧ (t.st i).port.brake = (s.st i).port.brake ∧ (t.st i).port.brakeTimer = (s.st i).port.brakeTimer

/-- Station `i` has entered FAULTED for a cause, with the effects of R48 and R69; `length` is the payout length that the event
leaves it. The tending hold and the latch command are kept. -/
structure Faulted (s t : State) (i : StationNo) (cause : FaultCause) (length : Option Nat) : Prop where
  record : (t.st i).record = { (s.st i).record.ended with
    state := .faulted, recon := none, tending := none, faultCause := some cause,
    faultCount := min 255 ((s.st i).record.faultCount + 1), payoutLength := length, seatTimer := none, latchOpenTimer := none }
  port : (t.st i).port.AtRest
  sinceFault : (t.st i).port.reportSinceFault = false
  standing : t.driveStatus i = .idle

/-- R61, R69, R74: the brake timer of station `i` after a report that puts it into FAULTED; `tested` where the finding comes after
the brake test of step 7. A set watch starts where the brake command was FREE, but on a report that ends the station's own haul,
which has the brake commanded SET before the entry (log 32). A report that shows SET ends a set watch that ran. A handshake step is
stopped; where the brake test has ended it and the grant is given anew, the brake command is FREE again at the entry. -/
structure ReportMadeSafe (s t : State) (i : StationNo) (r : Report) (tested : Bool) : Prop where
  freed : (s.st i).port.brake = .free → ¬(s.startsSurge i r = true ∧ (s.st i).hauls = true) →
    (t.st i).port.brakeTimer = .watch s.berth.brakeTimeout
  haulEnded : (s.st i).port.brake = .free → s.startsSurge i r = true → (s.st i).hauls = true →
    (t.st i).port.brakeTimer = .stopped
  step : (s.st i).port.brake = .set → (s.st i).port.brakeTimer.isStep = true → (tested = false ∨ r.readings.brake = .free) →
    (t.st i).port.brakeTimer = .stopped
  returned : (s.st i).port.brake = .set → (s.st i).port.brakeTimer.isStep = true → tested = true → r.readings.brake = .set →
    (t.st i).port.brakeTimer = .stopped
      ∨ ((t.st i).port.brakeTimer = .watch s.berth.brakeTimeout ∧ s.nextGrant < t.nextGrant ∧ s.quayStop = false
          ∧ (s.st i).request.isSome = true)
  watch : ∀ d, (s.st i).port.brakeTimer = .watch d →
    (r.readings.brake = .set → (t.st i).port.brakeTimer = .stopped)
      ∧ (r.readings.brake = .free → (t.st i).port.brakeTimer = .watch d)
  stopped : (s.st i).port.brake = .set → (s.st i).port.brakeTimer = .stopped → (t.st i).port.brakeTimer = .stopped

/-- R53, R69, R118: the port's and the Arbiter's share of a reconstruction that has begun on station `i`. -/
structure ReconstructionBegun (s t : State) (i : StationNo) : Prop where
  port : (t.st i).port.AtRest
  brakeTimer : BrakeMadeSafe s.berth.brakeTimeout (s.st i).port (t.st i).port
  reportLossTimer : (t.st i).port.reportLossTimer = some s.berth.reportLossInterval
  readings : (t.st i).port.readings = (s.st i).port.readings
  encoder : (t.st i).port.encoder = (s.st i).port.encoder
  sinceFault : (t.st i).port.reportSinceFault = (s.st i).port.reportSinceFault
  standing : t.driveStatus i = .idle

/-- R69, R74, R151: station `i`, on whose drive the firing has acted. Its port is made safe, as it stood when the firing reached it:
the grants that the firing takes back from stations before it may by then have had the Arbiter grant this one, where it was queued,
or, while more grants are in use than the limit, preempt it. -/
structure FiredSafe (s t : State) (i : StationNo) : Prop where
  port : (t.st i).port.AtRest
  standing : t.driveStatus i = .idle
  timer : s.drivesSound = true → s.queuedAs i = none →
    ((∀ h, s.holderOf i = some h → h.cls ≠ 2) ∨ (s.arbiterSettled = true ∧ s.holders.length ≤ s.berth.grantLimit)) →
    BrakeMadeSafe s.berth.brakeTimeout (s.st i).port (t.st i).port
  queued : s.drivesSound = true → s.queuedAs i ≠ none →
    (t.st i).port.brakeTimer = (s.st i).port.brakeTimer ∨ (t.st i).port.brakeTimer = .watch s.berth.brakeTimeout
  preempted : s.drivesSound = true → (s.st i).port.brake = .free →
    (t.st i).port.brakeTimer = .watch s.berth.brakeTimeout ∨ (t.st i).port.brakeTimer = .stopped

/-- R43, R73, R111, R113: station `i` has left its drive state for one without a drive request: with no grant its queue entry and
its holdoff are gone; a grant is kept while it returns, as that of a motion that has ended, through the handshake of its port,
which goes to SETTING, or stays there with its brake timer. Nothing else in the Arbiter's lists changes. -/
structure GrantEnds (s t : State) (i : StationNo) : Prop where
  noGrant : s.holderOf i = none →
    t.holders = s.holders ∧ t.queue = s.queue.filter (fun e => e.station ≠ i)
      ∧ t.holdoffs = s.holdoffs.filter (fun h => h.station ≠ i) ∧ t.driveStatus i = .idle
  grant : ∀ h, s.holderOf i = some h →
    t.holders = s.holders.map (fun k => if k.station = i then { k with condition := .returning .ended } else k)
      ∧ t.queue = s.queue ∧ t.holdoffs = s.holdoffs ∧ t.driveStatus i = .granted
  stopped : (s.st i).port.handshake = .freeing ∨ (s.st i).port.handshake = .driving →
    (t.st i).port.handshake = .setting ∧ (t.st i).port.drive = .hold ∧ (t.st i).port.brake = .set
      ∧ (t.st i).port.brakeTimer = .step s.berth.brakeTimeout ∧ (t.st i).port.stallTimer = none
  kept : (s.st i).port.handshake = .rest ∨ (s.st i).port.handshake = .setting →
    (t.st i).port.handshake = (s.st i).port.handshake ∧ (t.st i).port.drive = (s.st i).port.drive
      ∧ (t.st i).port.brake = (s.st i).port.brake ∧ (t.st i).port.brakeTimer = (s.st i).port.brakeTimer

/-- Steps 1 and 2 of R169, with R23, R58, R59, R76, R93, R106 and R107: what a berth reset has done when STARTING is entered, and
what it keeps; the reload and the reconstructions that follow are steps 3 and 4. The kept payout lengths are the model's choice
against the NOTE of R33 (log 33), the cleared tending items and the safe ports its reading (log 17). Where the brake command goes
from FREE to SET a set watch starts (R59, R69); where it was SET a set watch runs on, and that a handshake step is stopped is the
model's choice (log 34). -/
structure ResetBegun (s t : State) : Prop where
  arbiter : t.holders = [] ∧ t.queue = [] ∧ t.holdoffs = []
  cleared : t.surgeTimer = none ∧ t.localControl = Vector.replicate 6 false ∧ t.shortFlags = Vector.replicate 6 false
  kept : t.params = s.params ∧ t.profile = s.profile ∧ t.memory = s.memory ∧ t.pending = s.pending ∧ t.saving = s.saving
    ∧ t.underWay = s.underWay
  lines : t.releaseLine = s.releaseLine ∧ t.quayStop = s.quayStop
  record : ∀ i, (t.st i).record = { (s.st i).record.ended with
    recon := (t.st i).record.recon, tending := none, seatTimer := none, latchOpenTimer := none }
  tension : ∀ i, (t.st i).tension.history = (s.st i).tension.history ∧ (t.st i).tension.filtered = (s.st i).tension.filtered
    ∧ (t.st i).tension.scaled = (s.st i).tension.scaled ∧ (t.st i).tension.saturated = (s.st i).tension.saturated
    ∧ (t.st i).tension.hi = 0 ∧ (t.st i).tension.lo = 0 ∧ (t.st i).tension.saturationRun = 0
  port : ∀ i, (t.st i).port.AtRest ∧ (t.st i).port.readings = (s.st i).port.readings
    ∧ (t.st i).port.encoder = (s.st i).port.encoder ∧ (t.st i).port.reportSinceFault = (s.st i).port.reportSinceFault
  brakeTimer : ∀ i, BrakeMadeSafe s.berth.brakeTimeout (s.st i).port (t.st i).port

/-! ### Parameter writes, in numbers -/

/-- A write of value `v` to an item is taken, and the item then reads `w`. -/
def Params.Stores (p : Params) (table index v w : Nat) : Prop :=
  ∃ q, p.write table index v = some q ∧ q.read table index = some w

/-- R91: the order that the band parameters L, T, H, hb, P and E must keep. -/
def BandOrder (L T H hb P E : Nat) : Prop := L < T ∧ T < H ∧ H < P ∧ hb < T - L ∧ hb < H - T ∧ E < T

/-- R132: the items there are. -/
def KnownItem (table index : Nat) : Prop :=
  (table = 1 ∧ index < 256 ∧ index % 16 ≤ 10) ∨ (table = 2 ∧ index ≤ 23) ∨ (table = 3 ∧ index < 64 ∧ index % 4 ≤ 2)
    ∨ (table = 4 ∧ index ≤ 23) ∨ (table = 5 ∧ index ≤ 13)

/-- R13: some enabled group other than `g` has stations of the range `low` to `high`. -/
def Params.RangeTaken (p : Params) (g : GroupNo) (low high : Nat) : Prop :=
  ∃ k : GroupNo, k ≠ g ∧ p.groups[k].first ≤ 15 ∧ low ≤ p.groups[k].last ∧ p.groups[k].first ≤ high

/-- A write of value `v` to an item of group `g` is taken, and its record then reads first, last, minimum and rank as given. -/
def Params.GroupBecomes (p : Params) (g : GroupNo) (item v : Nat) (reads : List Nat) : Prop :=
  ∃ q, p.write 2 (4 * g.val + item) v = some q ∧ (List.range 4).map (fun k => q.read 2 (4 * g.val + k)) = reads.map some

/-- R12, R13: what a write of value `v` to each item of the record of group `g` makes of it, or whether it is refused RANGE. -/
structure GroupWritten (p : Params) (v : Nat) (g : GroupNo) : Prop where
  disables : 16 ≤ v → p.GroupBecomes g 0 v [255, p.groups[g].last, p.groups[g].minimum, p.groups[g].rank]
  first : v ≤ 15 →
    let last := max p.groups[g].last v
    (p.RangeTaken g v last → p.write 2 (4 * g.val) v = none)
      ∧ (¬p.RangeTaken g v last →
          p.GroupBecomes g 0 v [v, last, min p.groups[g].minimum (last + 1 - v), p.groups[g].rank])
  last : p.groups[g].first ≤ 15 →
    let first := p.groups[g].first
    let last := min 15 v
    (last < first → p.write 2 (4 * g.val + 1) v = none)
      ∧ (first ≤ last → p.RangeTaken g first last → p.write 2 (4 * g.val + 1) v = none)
      ∧ (first ≤ last → ¬p.RangeTaken g first last →
          p.GroupBecomes g 1 v [first, last, min p.groups[g].minimum (last + 1 - first), p.groups[g].rank])
  lastDisabled : 15 < p.groups[g].first →
    p.GroupBecomes g 1 v [p.groups[g].first, min 15 v, p.groups[g].minimum, p.groups[g].rank]
  minimum : p.Stores 2 (4 * g.val + 2) v
    (if p.groups[g].first ≤ 15 then min (min 8 v) (p.groups[g].last + 1 - p.groups[g].first) else min 8 v)
  rank : p.Stores 2 (4 * g.val + 3) v (min 7 v)

/-- R12, R13, R77, R91, R132 to R134: what a write of value `v` stores in each item, or that it is refused RANGE. -/
structure WritesStore (p : Params) (v : Nat) : Prop where
  calibration : ∀ i : StationNo,
    p.Stores 1 (16 * i.val) v (min 65535 v) ∧ p.Stores 1 (16 * i.val + 1) v (max 1 (min 65535 v))
      ∧ p.Stores 1 (16 * i.val + 2) v (min 4 v)
  band : ∀ i : StationNo,
    let b := p.band[i]
    let w := min 4000 v
    let takes := fun (item : Nat) (inOrder : Prop) =>
      (inOrder → p.Stores 1 (16 * i.val + item) v w) ∧ (¬inOrder → p.write 1 (16 * i.val + item) v = none)
    takes 3 (BandOrder w b.target b.high b.hysteresis b.trip b.releaseLimit)
      ∧ takes 4 (BandOrder b.low w b.high b.hysteresis b.trip b.releaseLimit)
      ∧ takes 5 (BandOrder b.low b.target w b.hysteresis b.trip b.releaseLimit)
      ∧ takes 6 (BandOrder b.low b.target b.high w b.trip b.releaseLimit)
      ∧ takes 7 (BandOrder b.low b.target b.high b.hysteresis w b.releaseLimit)
      ∧ takes 8 (BandOrder b.low b.target b.high b.hysteresis b.trip w)
  dwell : ∀ i : StationNo, p.Stores 1 (16 * i.val + 9) v (max 1 (min 32 v))
  maxPayout : ∀ i : StationNo, p.Stores 1 (16 * i.val + 10) v (max 1000 (min 65000 v))
  group : ∀ g : GroupNo, GroupWritten p v g
  routing : ∀ (k : Fin 16) (m : Master),
    (v ≤ 3 → p.Stores 3 (4 * k.val + masterNumber m) v v) ∧ (3 < v → p.write 3 (4 * k.val + masterNumber m) v = none)
  authority : ∀ k : Fin 24, (v ≤ 2 → p.Stores 4 k.val v v) ∧ (2 < v → p.write 4 k.val v = none)
  berth : ∀ x ∈ [(0, 1, 6), (1, 1000, 30000), (2, 1000, 15000), (3, 200, 3000), (4, 500, 10000), (5, 50, 1000), (6, 0, 4000),
      (7, 1000, 60000), (8, 1000, 5000), (9, 0, 10000), (13, 0, 1)],
    p.Stores 5 x.1 v (max x.2.1 (min x.2.2 v))
  threshold : ∀ m : Master,
    (v ≤ 3 → p.Stores 5 (10 + masterNumber m) v (max 1 v)) ∧ (3 < v → p.write 5 (10 + masterNumber m) v = none)

/-! ### The profile -/

/-- R165: one entry of a load: written and counted as applied where the block that keeps the item takes it, else counted as
skipped. With the parameters so far stand the applied and the skipped count. -/
def loadEntry (x : Params × Nat × Nat) (e : ProfileEntry) : Params × Nat × Nat :=
  match x.1.write e.table e.index e.value with
  | some p => (p, x.2.1 + 1, x.2.2)
  | none => (x.1, x.2.1, x.2.2 + 1)

/-- R165: a load's entries one by one, in their order, each judged against what the entries before it have left. -/
def loadEntries (p : Params) (entries : List ProfileEntry) : Params × Nat × Nat := entries.foldl loadEntry (p, 0, 0)

/-- The parameters and the profile status that a load with a result leaves (R164, R165): every item as it was, but where the image
is good, which is then written entry by entry. -/
structure LoadFollows (before after : Params) (status : ProfileStatus) (result : LoadResult)
    (entries : List ProfileEntry) : Prop where
  judged : status.result = result
  loaded : result = .loaded → after = (loadEntries before entries).1 ∧ status.applied = (loadEntries before entries).2.1
    ∧ status.skipped = (loadEntries before entries).2.2
  notLoaded : result ≠ .loaded → after = before ∧ status.applied = 0 ∧ status.skipped = 0

/-! ### Tension -/

/-- R76, R84, R87: the ranges of a station's tension items. -/
def Tension.inRange (x : Tension) : Bool :=
  orZero x.scaled ≤ maxTension && orZero x.filtered ≤ maxTension && x.saturationRun ≤ 16
    && x.history.length ≤ ringCapacity && x.history.all (· ≤ maxTension)

/-- R84: every station's tension items lie in their ranges. -/
def State.tensionSound (s : State) : Bool := allStations.all fun i => (s.st i).tension.inRange

/-! ### Alerts -/

/-- Two entries equal in kind, subject and detail (R138). -/
def AlertEntry.same (e f : AlertEntry) : Bool := e.kind = f.kind && e.subject = f.subject && e.detail = f.detail

/-- R141, R144: an alert queue holds at most 32 entries, no two of them equal and no two of one rank, each with a merge count of
1..255, in the queue order, and drives its attention output. -/
def Mailbox.sound (threshold : Nat) (q : Mailbox) : Bool :=
  q.entries.length ≤ queueCapacity
    && decide (q.entries.Pairwise fun e f => e.same f = false)
    && decide (q.entries.Pairwise fun e f => e.rank ≠ f.rank)
    && decide (q.entries.Pairwise fun e f => e.before f = true)
    && q.entries.all (fun e => 1 ≤ e.mergeCount && e.mergeCount ≤ 255 && e.rank < q.nextRank)
    && q.attention = attentionOf threshold q.entries

/-- R141, R144 on the three queues. -/
def State.alertsSound (s : State) : Bool :=
  [Master.shore, .vessel, .quay].all fun m => (s.mailboxes.get m).sound (s.threshold m)

/-! ### Configuration -/

/-- R77 -/
def Calibration.sound (c : Calibration) : Bool := c.zeroOffset ≤ 65535 && 1 ≤ c.gain && c.gain ≤ 65535 && c.filterShift ≤ 4

/-- R90, R91 -/
def Band.sound (b : Band) : Bool :=
  b.ordered && b.trip ≤ 4000 && 1 ≤ b.dwell && b.dwell ≤ 32 && 1000 ≤ b.maxPayout && b.maxPayout ≤ 65000

/-- R10 -/
def Group.sound (g : Group) : Bool :=
  (g.first = 255 || (g.first ≤ g.last && g.minimum ≤ g.size)) && g.last ≤ 15 && g.minimum ≤ 8 && g.rank ≤ 7

/-- R134 -/
def BerthItems.sound (b : BerthItems) : Bool :=
  1 ≤ b.grantLimit && b.grantLimit ≤ 6 && 1000 ≤ b.seatTimeout && b.seatTimeout ≤ 30000
    && 1000 ≤ b.latchOpenTimeout && b.latchOpenTimeout ≤ 15000 && 200 ≤ b.brakeTimeout && b.brakeTimeout ≤ 3000
    && 500 ≤ b.stallInterval && b.stallInterval ≤ 10000 && 50 ≤ b.reportLossInterval && b.reportLossInterval ≤ 1000
    && b.surgeStep ≤ 4000 && 1000 ≤ b.surgeHold && b.surgeHold ≤ 60000 && 1000 ≤ b.eqrHold && b.eqrHold ≤ 5000
    && b.preemptHoldoff ≤ 10000
    && [Master.shore, .vessel, .quay].all (fun m => 1 ≤ b.attention.get m && b.attention.get m ≤ 3)
    && b.reloadOnReset ≤ 1

/-- R13: no two enabled groups contain the same station. -/
def groupsDisjoint (groups : Vector Group 6) : Bool :=
  (List.finRange 6).all fun i => (List.finRange 6).all fun j => i == j || !(groups[i].overlaps groups[j])

/-- R10, R13, R77, R90, R91, R134, R139: every item in its range, every band in order, no group overlap. -/
def Params.sound (p : Params) : Bool :=
  p.calibration.toList.all Calibration.sound && p.band.toList.all Band.sound && p.groups.toList.all Group.sound
    && groupsDisjoint p.groups
    && p.routing.toList.all (fun r => r.shore ≤ 3 && r.vessel ≤ 3 && r.quay ≤ 3)
    && p.berth.sound

/-! ### Stations -/

/-- R29, R34, R37, R42: the operation in flight fits the state: PAYOUT holds a RUN_OUT with its target and a known length,
SEATING and TAKEUP a SEAT, EASING a RELEASE, REWINDING a REWIND; RELEASING a RELEASE or none; every other state none. -/
def Record.operationFits (r : Record) : Bool :=
  match r.state with
  | .payout => r.operation = some .runOut && r.runOutTarget.isSome && r.payoutLength.isSome
  | .seating => r.operation = some .seat
  | .takeup => r.operation = some .seat
  | .easing => r.operation = some .release
  | .rewinding => r.operation = some .rewind
  | .releasing => r.operation = none || r.operation = some .release
  | .outOfService => r.operation = none
  | .stowed => r.operation = none
  | .slack => r.operation = none
  | .presented => r.operation = none
  | .held => r.operation = none
  | .tending => r.operation = none
  | .faulted => r.operation = none

/-- R22, R33, R36, R40, R93: the optional fields of a record that is not settling. -/
def Record.fits (r : Record) : Bool :=
  r.operationFits
    && (r.tending.isSome == decide (r.state = .tending))
    && (r.seatTimer.isSome == decide (r.state = .seating))
    && (r.latchOpenTimer.isSome == decide (r.state = .releasing))
    && (r.state ≠ .stowed || r.payoutLength.isSome)
    && (r.state ≠ .faulted || r.faultCause.isSome)
    && (r.operation.isSome || (r.owner.isNone && r.runOutTarget.isNone))

/-- R53, R58: no operation, no tending and no timer, as on a settling station and through a berth reset's reload. -/
def Record.quiet (r : Record) : Bool :=
  r.operation = none && r.owner = none && r.runOutTarget = none && r.tending = none && r.seatTimer = none
    && r.latchOpenTimer = none

/-- R85: a station whose state reads the filtered tension has one. -/
def Station.tensionKnown (st : Station) : Bool :=
  st.tension.filtered.isSome || st.record.state = .faulted || st.record.state = .outOfService

/-- R22, R53, R58, R85: one station's record; `reloading` while a berth reset reloads the profile. -/
def Station.sound (reloading : Bool) (st : Station) : Bool :=
  st.record.faultCount ≤ 255 && orZero st.record.payoutLength ≤ 65535
    && (if st.settling then st.record.quiet
        else st.tensionKnown
          && (if reloading && st.record.state ≠ .faulted && st.record.state ≠ .outOfService then st.record.quiet
              else st.record.fits))

/-- R121, R150, R169: a berth reset's reload goes on in STARTING, with the Arbiter emptied, no quick release arming and no other
order under way. -/
def State.reloadFits (s : State) : Bool :=
  s.reload.isNone
    || (s.phase = .starting && s.eqr ≠ .arming && s.underWay.isNone && s.holders.isEmpty && s.queue.isEmpty && s.holdoffs.isEmpty)

/-- R22, R85: every station's record is sound. -/
def State.stationsSound (s : State) : Bool := s.reloadFits && allStations.all fun i => (s.st i).sound s.reload.isSome

end Sys2Proof.Machine
end

