-- ==== Sys2Proof/Certificates/Slice0/Obligations.lean ====
section
/-! DEFINITION. The statements for the provers. Each docstring names the rules of spec/ the statement formalises; OBLIGATIONS.json
lists them. -/

open Sys2Proof Sys2Proof.Machine

/-! ### Steps, orders and frames -/

/-- One step carries out the command at the front of the queue of waiting commands. -/
def Obligations.StepRunsFrontCommand : Prop :=
  ∀ (c : Instr) (rest : List Instr) (s : State), step { s with pending := c :: rest } = exec c { s with pending := rest }

/-- R121, R155: an order row whose order is taken does what placing the order on its link and then letting the Order Unit serve it
to its end does; where it is not taken, the order is placed, or discarded if another waits. With no command waiting, a step is one
turn of the Order Unit: it goes on with the order under way, or else takes the next waiting order, or else rests. The form of an
order row and of the turns is the model's (log 3, 9, 10). -/
def Obligations.OrderRowsAreServed : Prop :=
  ∀ (c : Instr) (m : Master) (o : Order) (s : State), orderOfRow c = some (m, o) →
    (s.takesNow m o = true → exec c s = .next (s.modLink m (Link.place o)).serveNext.servedOut)
      ∧ (s.takesNow m o = false → exec c s = .next (s.modLink m (Link.place o)))
      ∧ (s.pending = [] → step s = .next s.serveNext)
      ∧ (s.underWay = none → s.nextServed = none → s.serveNext = s)
      ∧ s.servedOut.underWay = none

/-- R154, R155: the frame that carries an order, received whole by a hunting receiver, puts just that order in an empty waiting
slot, and is discarded where the slot is taken. A frame of any length from 3 to 19 whose check is not right is discarded: it leaves
the part as it was, with the receiver hunting again. -/
def Obligations.OrderFrameRoundTrip : Prop :=
  ∀ (s : State) (m : Master), (s.link m).receiver = .hunting →
    (∀ o : Order, o.params.length ≤ 16 →
        exec (.orderFrame m (orderFrame o)) s
          = .next (s.modLink m fun l => { l with waiting := match l.waiting with | none => some o | some w => some w }))
      ∧ ∀ (n high low : Byte) (body : List Byte), 3 ≤ n.toNat → n.toNat ≤ 19 → body.length = n.toNat →
          [high, low] ≠ checkBytes (n :: body) →
          exec (.orderFrame m (0xA5 :: n :: body ++ [high, low])) s = .next s

/-- R60, R63, section 3.2: the block that carries a report is taken as just that report, with every reading at every value. A
complete block whose check is not right, whose station number is not the port's, or whose latch field is 3 is discarded: only the
command set is sent. -/
def Obligations.ReportBlockRoundTrip : Prop :=
  ∀ (s : State) (i : StationNo), (s.st i).port.block = [] →
    (∀ r : Report, parseReport i (reportBlock i r) = some r
        ∧ exec (.stationReport i (reportBlock i r)) s
            = .next (((s.takeReport i r).modPort i fun p => { p with sendDue := true }).sendSets))
      ∧ ∀ number loadLow loadHigh countLow countHigh sensors high low : Byte,
          let body := [number, loadLow, loadHigh, countLow, countHigh, sensors]
          ([high, low] ≠ checkBytes body ∨ number.toNat ≠ i.val ∨ sensors.toNat % 4 = 3) →
          exec (.stationReport i (body ++ [high, low])) s = .next ((s.modPort i fun p => { p with sendDue := true }).sendSets)

/-- R122, R123, R158, terms 'Refused': an order of any row that is answered with a refusal changes nothing but the answer it causes
(and the command sets due, if any were, are sent). The first three checks are made on every order that the Order Unit takes, of a
row or come in by its frame: an order other than GET_PARAM and GET_BERTH in STARTING is refused STARTING; a code not in the table
UNKNOWN_ORDER; a wrong parameter count or a service byte above 1 BAD_FORMAT; a target that the code does not take BAD_TARGET. -/
def Obligations.RefusedOrdersChangeNothing : Prop :=
  (∀ (c : Instr) (m : Master) (o : Order) (v : Verdict) (s t : State), orderOfRow c = some (m, o) → s.takesNow m o = true →
      v.refuses = true → exec c s = .next t → (t.link m).sending = some (answerFrame o.code o.tag (.plain v)) →
      t = ((s.taken m o).answer m o (.plain v)).sendSets)
    ∧ (∀ (m : Master) (o : Order) (s : State), s.takesNow m o = true →
        WholeChecks s o fun v => (s.modLink m (Link.place o)).serveNext = ((s.taken m o).answer m o (.plain v)).sendSets)
    ∧ ∀ (c : Instr) (m : Master) (o : Order) (s : State), orderOfRow c = some (m, o) → s.takesNow m o = true →
        WholeChecks s o (RefusedWith s c m o)

/-! ### Reset -/

/-- What the part holds right after the power-on reset, where the manual gives it, the parameter items in numbers (R1, R14, R17,
R23, R59, R76, R77, R90, R103, R107, R124, R126, R134, R146, R148, R154, R162, R164, R165). That State.reset is the state a
power-on leaves with a blank memory and both lines deasserted, so that the load is ABSENT and its PROFILE alert stands in the
shore's queue, is the model's choice (log 1, 2), as is that no report block is being collected (log 29). -/
def Obligations.ResetValues : Prop :=
  State.reset.phase = .starting ∧ State.reset.params = .default ∧ AtDefaults State.reset.params
    ∧ (∀ g, State.reset.shortFlags[(g : GroupNo)] = false)
    ∧ (∀ i, (State.reset.st i).record = .powerOn ∧ (State.reset.st i).tension = .powerOn ∧ AtPowerOn (State.reset.st i)
        ∧ (State.reset.st i).port.readings = none ∧ (State.reset.st i).port.encoder = none
        ∧ (State.reset.st i).port.reportSinceFault = false ∧ (State.reset.st i).port.stallTimer = none
        ∧ (State.reset.st i).port.drive = .off ∧ (State.reset.st i).port.brake = .set
        ∧ (State.reset.st i).port.handshake = .rest ∧ (State.reset.st i).port.reportLossTimer = some 250
        ∧ (State.reset.st i).port.brakeTimer = .watch 1000 ∧ (State.reset.st i).port.block = [])
    ∧ State.reset.holders = [] ∧ State.reset.queue = [] ∧ State.reset.holdoffs = []
    ∧ State.reset.eqr = .idle ∧ State.reset.eqrTimer = none ∧ State.reset.surgeTimer = none
    ∧ State.reset.releaseLine = false ∧ State.reset.quayStop = false
    ∧ (∀ g, State.reset.localControl[(g : GroupNo)] = false)
    ∧ (∀ m, (State.reset.link m).receiver = .hunting ∧ (State.reset.link m).waiting = none ∧ (State.reset.link m).sending = none)
    ∧ State.reset.nextLink = .shore ∧ State.reset.underWay = none
    ∧ (∀ m, m ≠ .shore → (State.reset.mailboxes.get m).entries = [] ∧ (State.reset.mailboxes.get m).attention = false)
    ∧ (∀ m, (State.reset.mailboxes.get m).lost = false)
    ∧ (State.reset.mailboxes.get .shore).entries = [⟨.profile, .berth, 2, 1, 1, 0⟩]
    ∧ (State.reset.mailboxes.get .shore).attention = true
    ∧ State.reset.profile = ⟨.absent, 0, 0⟩
    ∧ State.reset.saving = none ∧ State.reset.reload = none ∧ Memory.wf State.reset.memory = true

/-- The invariants stated below hold right after reset. -/
def Obligations.ResetIsSound : Prop :=
  Memory.wf State.reset.memory = true ∧ State.reset.tensionSound = true ∧ State.reset.alertsSound = true
    ∧ State.reset.drivesSound = true ∧ State.reset.arbiterSettled = true ∧ State.reset.params.sound = true
    ∧ State.reset.stationsSound = true

/-- R162, R163: POWER_ON from any state leaves the part starting, every station settling in SLACK with its power-on record, its
watches running, its command set sent once; every list empty; the lines at the levels given. A memory that does not respond
gives ABSENT and leaves every item at its default, the defaults being given in numbers; one that responds is loaded by R164 and
R165 over the defaults, its image the memory as the power-on finds it. PROFILE is raised by the default routing, and QUAY_STOP
after it by the loaded one where that line is asserted, an order of the two that is the model's choice (log 6). With no save in
progress the memory is as it was. The count of command sets and the queue of commands are the model's own (log 12), the grant
times count from 0 (log 24), and that no report block is being collected is the model's choice (log 29). -/
def Obligations.PowerOnStartsAnew : Prop :=
  ∀ (s : State) (releaseLine quayLine responds : Bool) (n : Nat),
    ∃ t, exec (.powerOn releaseLine quayLine responds n) s = .next t
      ∧ t.phase = .starting ∧ t.shortFlags = Vector.replicate 6 false
      ∧ (∀ i, AtPowerOn (t.st i)
          ∧ (t.st i).port.readings = none ∧ (t.st i).port.encoder = none ∧ (t.st i).port.reportSinceFault = false
          ∧ (t.st i).port.drive = .off ∧ (t.st i).port.brake = .set ∧ (t.st i).port.handshake = .rest
          ∧ (t.st i).port.reportLossTimer = some t.berth.reportLossInterval
          ∧ (t.st i).port.brakeTimer = .watch t.berth.brakeTimeout ∧ (t.st i).port.stallTimer = none
          ∧ (t.st i).port.block = [] ∧ (t.st i).port.sends = 1 ∧ (t.st i).port.sentSet = (t.st i).commandSet i)
      ∧ t.holders = [] ∧ t.queue = [] ∧ t.holdoffs = [] ∧ t.nextGrant = 0 ∧ t.surgeTimer = none
      ∧ t.eqr = .idle ∧ t.eqrTimer = none ∧ t.releaseLine = releaseLine ∧ t.quayStop = quayLine
      ∧ t.localControl = Vector.replicate 6 false ∧ t.nextLink = .shore ∧ t.links = ⟨.powerOn, .powerOn, .powerOn⟩
      ∧ t.saving = none ∧ t.reload = none ∧ t.underWay = none ∧ t.pending = s.pending
      ∧ (s.saving = none → t.memory = s.memory)
      ∧ AtDefaults .default
      ∧ (responds = false → t.params = .default ∧ t.profile = ⟨.absent, 0, 0⟩
          ∧ t.mailboxes = ((State.powerOnValues [] []).raiseAll
              ((⟨.profile, .berth, 2⟩, none) :: if quayLine then [(⟨.quayStop, .berth, 1⟩, none)] else [])).mailboxes)
      ∧ LoadFollows .default t.params t.profile (imageResult responds t.memory) (imageEntries responds t.memory)
      ∧ t.mailboxes = (({ State.powerOnValues [] [] with params := t.params }.raiseBy routingDefault
            ⟨.profile, .berth, match t.profile.result with | .loaded => 1 | .absent => 2 | .invalid => 3⟩ none).raiseAll
          (if quayLine then [(⟨.quayStop, .berth, 1⟩, none)] else [])).mailboxes

/-! ### Links -/

/-- R32, R157: a link reset sets its link to its power-on state, empties its master's alert queue, disowns that master's
operations, clears local control on the quay's link, and cancels a reload's answer on the shore's; everything else stays. That the
reload itself goes on is the model's reading (log 21), as is that an order of this link that is under way on several stations is
first applied whole and its answer then abandoned (R157; log 28). -/
def Obligations.LinkResetEffect : Prop :=
  (∀ (s : State) (m : Master), (∀ w, s.underWay = some w → w.link ≠ m) →
    ∃ t, exec (.linkReset m) s = .next t
      ∧ t.link m = ⟨.hunting, none, none⟩ ∧ (∀ n, n ≠ m → t.link n = s.link n)
      ∧ (t.mailboxes.get m).entries = [] ∧ (t.mailboxes.get m).lost = false ∧ (t.mailboxes.get m).attention = false
      ∧ (∀ n, n ≠ m → t.mailboxes.get n = s.mailboxes.get n)
      ∧ (∀ i, (t.st i).port = (s.st i).port ∧ (t.st i).tension = (s.st i).tension
          ∧ (t.st i).record
              = { (s.st i).record with owner := if (s.st i).record.owner = some m then none else (s.st i).record.owner })
      ∧ t.localControl = (if m = .quay then Vector.replicate 6 false else s.localControl)
      ∧ t.reload = (if m = .shore then s.reload.map (fun r => { r with answerDue := false }) else s.reload)
      ∧ t.nextLink = s.nextLink ∧ t.phase = s.phase ∧ t.shortFlags = s.shortFlags ∧ t.params = s.params
      ∧ t.holders = s.holders ∧ t.queue = s.queue ∧ t.holdoffs = s.holdoffs ∧ t.nextGrant = s.nextGrant
      ∧ t.quayStop = s.quayStop ∧ t.releaseLine = s.releaseLine ∧ SameWatch s t
      ∧ t.profile = s.profile ∧ t.saving = s.saving ∧ t.memory = s.memory ∧ t.pending = s.pending
      ∧ t.underWay = s.underWay)
    ∧ ∀ (s : State) (m : Master) (w : OrderUnderWay), s.underWay = some w → w.link = m →
        exec (.linkReset m) s = exec (.linkReset m) s.servedOut ∧ s.servedOut.underWay = none

/-- R154, R155: the frame gap and a spoiled byte send the receiver hunting and touch nothing else; the end of an answer makes the
transmitter idle and touches nothing else. A byte that is no sync byte passes a hunting receiver by. -/
def Obligations.LinkEventsTouchOneLink : Prop :=
  ∀ (s : State) (m : Master),
    exec (.orderFrameGapTimeout m) s = .next (s.modLink m fun l => { l with receiver := .hunting })
      ∧ exec (.answerSent m) s = .next (s.modLink m fun l => { l with sending := none })
      ∧ exec (.framingError m .stopBitAtSpacing) s = .next (s.modLink m fun l => { l with receiver := .hunting })
      ∧ (∀ v : Byte, (v.toNat < 3 ∨ 19 < v.toNat) → (s.link m).receiver = .collecting [] →
          exec (.framingError m (.length v)) s = .next (s.modLink m fun l => { l with receiver := .hunting }))
      ∧ (∀ v : Byte, v ≠ 0xA5 → (s.link m).receiver = .hunting → exec (.framingError m (.length v)) s = .next s)

/-! ### Reports -/

/-- R61 to R68, R63, R70 to R73, R110, R113, R115: a taken report gives the port its readings and encoder count, restarts the
report-loss timer, and makes report since fault yes, which stays so on a station that was FAULTED already; it moves a known payout
length by the encoder difference (clamped; a jump of more than 2048 and the seeding count leave it) or sets it 0 at the end-stop,
and has the command set sent once, counted in the model's own field (log 12). On a report without an earlier finding the brake
reading moves the handshake: FREE in FREEING begins driving in the direction of the state, with the stall timer; SET in DRIVING goes
back to FREEING; SET in SETTING ends the handshake and returns the grant, after which the station is idle, in holdoff, queued at the
tail or in the front part, or granted anew; any other reading leaves it. A driving station's stall timer is restarted by a moved
encoder. The Sequencer's own work on the same report may then end or change the motion: the clauses on the handshake say what holds
where the station's drive request, or its state, is still there. They speak of a part whose Arbiter owes no grant and no preemption,
as GrantsFollowRules says that every step leaves it: where one were owed, a surge of the same report, which has the Arbiter make its
tests before the brake test, would give the station a grant or take it back first. -/
def Obligations.ReportUpdatesPort : Prop :=
  ∀ (s : State) (i : StationNo) (r : Report), (s.st i).port.block = [] →
    ∃ t, exec (.stationReport i (reportBlock i r)) s = .next t ∧ SameBerth s t ∧ SameLinks s t
      ∧ (t.st i).port.readings = some r.readings ∧ (t.st i).port.encoder = some r.encoder
      ∧ (t.st i).port.reportLossTimer = some s.berth.reportLossInterval ∧ (t.st i).port.block = []
      ∧ ((t.st i).record.state ≠ .faulted → (t.st i).port.reportSinceFault = true)
      ∧ ((s.st i).record.state = .faulted → (s.st i).settling = false →
          (t.st i).record.state = .faulted ∧ (t.st i).port.reportSinceFault = true)
      ∧ (t.st i).port.sends = (s.st i).port.sends + 1 ∧ (t.st i).port.sentSet = (t.st i).commandSet i
      ∧ (r.readings.endStop = true → (t.st i).record.payoutLength = some 0)
      ∧ (r.readings.endStop = false → (s.st i).record.payoutLength = none → (t.st i).record.payoutLength = none)
      ∧ (∀ n, r.readings.endStop = false → (s.st i).record.payoutLength = some n →
          ((s.st i).port.encoder = none → (t.st i).record.payoutLength = some n)
            ∧ ∀ p, (s.st i).port.encoder = some p →
                (2048 < (r.encoder - p).toInt.natAbs → (t.st i).record.payoutLength = some n)
                  ∧ ((r.encoder - p).toInt.natAbs ≤ 2048 →
                      (t.st i).record.payoutLength = some (min 65535 ((n : Int) + (r.encoder - p).toInt).toNat)))
      ∧ (r.readings.moduleFault = false → s.jumps i r = false → s.overRange i r = false →
          ¬(s.startsSurge i r = true ∧ (s.st i).hauls = true) → (s.st i).settling = false → s.drivesSound = true →
          s.arbiterSettled = true →
          BrakeFollows s t i r.readings.brake
            ∧ ((s.st i).port.handshake = .driving → r.readings.brake = .free → SameState s t i →
                (t.st i).port.stallTimer
                  = (if (s.st i).port.encoder = some r.encoder ∨ (s.st i).port.encoder = none then (s.st i).port.stallTimer
                     else some s.berth.stallInterval)))

/-- R78 to R81, R83, R87: a taken report of a station in service or settling gives its scaled tension, saturated mark, saturation
run, filtered tension and history; of another station it leaves them. That a sample without an old filtered tension is taken as it
is is the model's reading (log 5). -/
def Obligations.ReportComputesTension : Prop :=
  ∀ (s : State) (i : StationNo) (r : Report), (s.st i).port.block = [] →
    ∃ t, exec (.stationReport i (reportBlock i r)) s = .next t
      ∧ ((s.st i).computed = false → (t.st i).tension = (s.st i).tension)
      ∧ ((s.st i).computed = true →
          let scaled := scaleSample (s.calibration i) r.readings.loadSample.toNat
          let limited := min 4000 scaled
          let filtered :=
            match (s.st i).tension.seedPending, (s.st i).tension.filtered with
            | false, some f => filterStep (s.calibration i).filterShift f limited
            | _, _ => limited
          (t.st i).tension.scaled = some limited ∧ (t.st i).tension.saturated = decide (4000 < scaled)
            ∧ (t.st i).tension.saturationRun = (if 4000 < scaled then min 16 ((s.st i).tension.saturationRun + 1) else 0)
            ∧ (t.st i).tension.filtered = some filtered ∧ (t.st i).tension.seedPending = false
            ∧ (t.st i).tension.history
                = (if (s.st i).tension.history.length < 16 then (s.st i).tension.history ++ [filtered]
                   else (s.st i).tension.history.tail ++ [filtered]))

/-- R79, and 00_scope, Arithmetic: stage 1, and the convergent rounding it uses, which gives a nearest integer, and at a tie the
even one, alike for negative values. -/
def Obligations.ScalingRoundsToNearest : Prop :=
  (∀ (c : Calibration) (sample : Nat),
      (sample ≤ c.zeroOffset → scaleSample c sample = 0 ∧ ∀ x : Tension, (x.limit (scaleSample c sample)).saturated = false)
        ∧ (c.zeroOffset < sample →
            let p := (sample - c.zeroOffset) * c.gain
            scaleSample c sample
              = (if p % 4096 < 2048 then p / 4096
                 else if 2048 < p % 4096 then p / 4096 + 1
                 else if (p / 4096) % 2 = 0 then p / 4096 else p / 4096 + 1))
        ∧ (sample ≤ 65535 → c.gain ≤ 65535 →
            (sample - c.zeroOffset) * c.gain ≤ 4294836225 ∧ scaleSample c sample ≤ 1048544))
    ∧ scaleSample { zeroOffset := 0, gain := 65535, filterShift := 0 } 65535 = 1048544
    ∧ ∀ (p : Int) (q : Nat), 0 < q →
        2 * (p - q * convergent p q).natAbs ≤ q ∧ (2 * (p - q * convergent p q).natAbs = q → convergent p q % 2 = 0)
          ∧ convergent (-p) q = -convergent p q

/-- R84: an update of the filter stays between the old value and the sample, both included, so within 0..4000; a sample in the
dead zone leaves it; shift 0 takes the sample. -/
def Obligations.FilterStaysBetween : Prop :=
  ∀ (k f t : Nat), f ≤ 4000 → t ≤ 4000 → k ≤ 4 →
    min f t ≤ filterStep k f t ∧ filterStep k f t ≤ max f t ∧ filterStep k f t ≤ 4000
      ∧ (k = 0 → filterStep k f t = t)
      ∧ (0 < k → ((t : Int) - f).natAbs ≤ 2 ^ (k - 1) → filterStep k f t = f)
      ∧ (∀ x : Tension, x.seedPending = true → (x.filterStage k t).filtered = some t)

/-- R3, R6, R17, R30, R48, R49, R50, R55, R65, R69, R74, R80, R163: what a report finds on a station that acts on findings, in the
order MODULE, ENCODER, LOAD_RANGE, BRAKE, LATCH_LOST, puts it into FAULTED with that cause; LATCH_LOST on a driven line too, whose
brake reads FREE. An operation in flight raises OP_FAILED(FAULT), and then FAULT is raised with the cause. Outside STARTING the
berth plan follows: in MOORED the fall of the group's holding count below its minimum sets the short flag and raises PLAN_SHORT. In
STARTING a faulting report of the last settling station ends it. A surge detection of the same report acts as always. That
SURGE_START stands before these alerts, and PHASE and PLAN_SHORT after them, is the model's choice (log 6). The brake finding
speaks of a part whose Arbiter owes no grant, as GrantsFollowRules says that every step leaves it: where one were owed, a surge of
the same report could grant the station, and end its REST, before the brake test. The port is made safe (R69), and what then
becomes of its brake timer is said of such a part, its drives sound as StepKeepsDrives says; that a report which ends its own
station's haul has the brake commanded SET before the entry, so that no set watch starts, is the model's choice (log 32). What a
finding, a surge detection and the other terms of a report's statements are is said in every state, in the rules' words (R25, R49,
R50, R53, R65, R74, R78, R80 to R83, R103), but for two readings of the model's: that a settling station has no BRAKE and no
LATCH_LOST finding on a report wherever it settles, in the clauses brake and latch, where R74 exempts the reconstruction report
alone (log 16), and that a sample without an old filtered tension makes no surge test and is taken as it is, in the clauses surge
and tension (log 5). That it has no BRAKE finding at the expiry of a set watch, in the clause watch, is R74's own. -/
def Obligations.ReportFindingsFault : Prop :=
  (∀ (s : State) (i : StationNo) (r : Report), ReportTerms s i r)
    ∧ ∀ (s : State) (i : StationNo) (r : Report), (s.st i).port.block = [] → (s.st i).actsOnFinding = true →
    ∃ t, exec (.stationReport i (reportBlock i r)) s = .next t ∧ ReportFrame i s t r
      ∧ (let faults := fun (cause : FaultCause) =>
          let named := s.surgeAlert i r ++ s.failedAlert i .fault
            ++ [((⟨.fault, .station i, cause.code⟩ : Alert), (none : Option Master))]
          Faulted s t i cause (s.reportLength i r)
            ∧ (s.drivesSound = true → s.arbiterSettled = true → ReportMadeSafe s t i r (decide (cause = .latchLost)))
            ∧ Raised s t named (.eqrArming :: followKinds)
            ∧ (s.phase ≠ .starting → PlanFollows s t i named ∧ t.eqr = s.eqr ∧ t.eqrTimer = s.eqrTimer)
            ∧ (s.phase = .starting → StartingFollows s t named)
         (r.readings.moduleFault = true → faults .module)
          ∧ (r.readings.moduleFault = false → s.jumps i r = true → faults .encoder)
          ∧ (r.readings.moduleFault = false → s.jumps i r = false → s.overRange i r = true → faults .loadRange)
          ∧ (r.readings.moduleFault = false → s.jumps i r = false → s.overRange i r = false →
              s.arbiterSettled = true → (s.st i).brakeFinding r.readings.brake = true → faults .brake)
          ∧ (r.readings.moduleFault = false → s.jumps i r = false → s.overRange i r = false →
              (s.st i).brakeFinding r.readings.brake = false → (s.st i).latchLost r.readings.latch = true → faults .latchLost))

/-- R3, R53, R54, R57, R150, R163, R170: the first report without a finding reconstructs a settling station: STOWED at the
end-stop, else HELD, SLACK or RELEASING by the latch; the tending hold is cleared, the fault fields are kept, and FAULT_CLEARED is
raised for a station that settles after CLEAR_FAULT. In STARTING the last station to settle ends it: the computed phase is entered
and the release line evaluated once; outside STARTING the berth plan follows the station. That a brake that reads FREE, or a latch
that is not CLOSED, puts no settling station into FAULTED, wherever it settles, is the model's reading (log 16), and that PHASE and
PLAN_SHORT stand after the event's other alerts its choice (log 6). During the reload of a berth reset a report that brings no
finding to act on makes no other step of the Sequencer (R28, R169): it moves the payout length and gives the tension and the
readings, as ReportUpdatesPort and ReportComputesTension say, and changes nothing else of the record, settling or not, the berth
plan or the Arbiter's lists, but for a surge detection, which acts as always. That the reload's entries are applied at its end, so
that such a report is worked with the old parameters, is the model's choice (log 18), and that a brake that reads FREE or a latch
that is not CLOSED is no finding on a station that settles then its reading (log 16). -/
def Obligations.ReconstructionFollowsReport : Prop :=
  (∀ (s : State) (i : StationNo) (r : Report), (s.st i).port.block = [] → (s.st i).settling = true → s.reload = none →
    r.readings.moduleFault = false → s.jumps i r = false → s.overRange i r = false →
    let cleared := s.surgeAlert i r ++
      match (s.st i).record.recon, (s.st i).record.faultCause with
      | some .clearFault, some cause => [((⟨.faultCleared, .station i, cause.code⟩ : Alert), (none : Option Master))]
      | _, _ => []
    let settled := { (s.st i).record with
      recon := none, tendingHold := false, tending := none, payoutLength := s.reportLength i r }
    ∃ t, exec (.stationReport i (reportBlock i r)) s = .next t ∧ ReportFrame i s t r
      ∧ (r.readings.endStop = true →
          (t.st i).record = { settled with state := .stowed } ∧ (t.st i).record.payoutLength = some 0)
      ∧ (r.readings.endStop = false → r.readings.latch = .closed →
          (t.st i).record = { settled with state := .held } ∧ (t.st i).tension.hi = 0 ∧ (t.st i).tension.lo = 0)
      ∧ (r.readings.endStop = false → r.readings.latch = .open → (t.st i).record = { settled with state := .slack })
      ∧ (r.readings.endStop = false → r.readings.latch = .moving →
          (t.st i).record = { settled with
            state := .releasing, latchCommand := .open, seatTimer := none,
            latchOpenTimer := some s.berth.latchOpenTimeout })
      ∧ Raised s t cleared (.eqrArming :: followKinds)
      ∧ (s.phase ≠ .starting → PlanFollows s t i cleared ∧ t.eqr = s.eqr ∧ t.eqrTimer = s.eqrTimer)
      ∧ (s.phase = .starting → StartingFollows s t cleared))
    ∧ ∀ (s : State) (i : StationNo) (r : Report), (s.st i).port.block = [] → s.reload ≠ none → s.stationsSound = true →
      ((s.st i).actsOnFinding = false
        ∨ (r.readings.moduleFault = false ∧ s.jumps i r = false ∧ s.overRange i r = false
            ∧ (s.st i).brakeFinding r.readings.brake = false ∧ (s.st i).latchLost r.readings.latch = false)) →
      ∃ t, exec (.stationReport i (reportBlock i r)) s = .next t ∧ ReportFrame i s t r
        ∧ (t.st i).record = { (s.st i).record with payoutLength := s.reportLength i r }
        ∧ (t.st i).tension.hi = (s.st i).tension.hi ∧ (t.st i).tension.lo = (s.st i).tension.lo
        ∧ t.phase = .starting ∧ t.shortFlags = s.shortFlags ∧ t.eqr = s.eqr ∧ t.eqrTimer = s.eqrTimer
        ∧ t.holders = [] ∧ t.queue = [] ∧ t.holdoffs = []
        ∧ (s.drivesSound = true → (t.st i).port.AtRest)
        ∧ Raised s t (s.surgeAlert i r) []

/-- R5, R17, R35: in SEATING the first report showing CLOSED ends the seating: HELD with OP_DONE at or above the target, by which
ALONGSIDE may become MOORED and a short flag may be cleared; TAKEUP below it; other readings change nothing. That PHASE stands
after the event's other alerts is the model's choice (log 6). -/
def Obligations.SeatingTest : Prop :=
  ∀ (s : State) (i : StationNo) (r : Report), PlainReport s i r → (s.st i).record.state = .seating →
    (s.st i).record.operation = some .seat →
    ∃ t, exec (.stationReport i (reportBlock i r)) s = .next t ∧ ReportFrame i s t r
      ∧ (r.readings.latch = .closed → (s.band i).target ≤ s.reportTension i r.readings →
          (t.st i).record = { (s.st i).record with
            payoutLength := s.reportLength i r, state := .held, tending := none, seatTimer := none, operation := none,
            owner := none, runOutTarget := none }
            ∧ (t.st i).tension.hi = 0 ∧ (t.st i).tension.lo = 0
            ∧ Raised s t (s.surgeAlert i r ++ [(⟨.opDone, .station i, 2⟩, (s.st i).record.owner)]) (.eqrArming :: followKinds)
            ∧ (s.phase ≠ .starting → PlanFollows s t i (s.surgeAlert i r ++ [(⟨.opDone, .station i, 2⟩, (s.st i).record.owner)])))
      ∧ (r.readings.latch = .closed → s.reportTension i r.readings < (s.band i).target →
          (t.st i).record = { (s.st i).record with
            payoutLength := s.reportLength i r, state := .takeup, tending := none, seatTimer := none }
            ∧ (s.driveStatus i = .idle → t.driveStatus i = .queued 1 ∨ t.driveStatus i = .granted)
            ∧ Raised s t (s.surgeAlert i r) (.eqrArming :: followKinds))
      ∧ (r.readings.latch ≠ .closed →
          (t.st i).record = { (s.st i).record with payoutLength := s.reportLength i r }
            ∧ Raised s t (s.surgeAlert i r) (.eqrArming :: followKinds))

/-- R5, R17, R37, R39: on a report with the latch CLOSED, TAKEUP ends in HELD with OP_DONE at or above the target; EASING ends in
RELEASING with the latch commanded OPEN at or below the release limit, and else in HELD with FAILED(LIMIT) at a known length at or
above max payout. At each entry to HELD the berth plan follows, its alerts after the event's others by the model's choice (log 6).
Otherwise the state goes on. -/
def Obligations.TakeUpAndEasingTests : Prop :=
  ∀ (s : State) (i : StationNo) (r : Report), PlainReport s i r → r.readings.latch = .closed →
    ∃ t, exec (.stationReport i (reportBlock i r)) s = .next t ∧ ReportFrame i s t r
      ∧ ((s.st i).record.state = .takeup → (s.st i).record.operation = some .seat →
          ((s.band i).target ≤ s.reportTension i r.readings →
            (t.st i).record = { (s.st i).record with
              payoutLength := s.reportLength i r, state := .held, tending := none, operation := none, owner := none,
              runOutTarget := none }
              ∧ Raised s t (s.surgeAlert i r ++ [(⟨.opDone, .station i, 2⟩, (s.st i).record.owner)]) (.eqrArming :: followKinds)
              ∧ (s.phase ≠ .starting → PlanFollows s t i (s.surgeAlert i r ++ [(⟨.opDone, .station i, 2⟩, (s.st i).record.owner)])))
          ∧ (s.reportTension i r.readings < (s.band i).target →
              (t.st i).record = { (s.st i).record with payoutLength := s.reportLength i r }))
      ∧ ((s.st i).record.state = .easing → (s.st i).record.operation = some .release →
          (s.reportTension i r.readings ≤ (s.band i).releaseLimit →
            (t.st i).record = { (s.st i).record with
              payoutLength := s.reportLength i r, state := .releasing, tending := none, latchCommand := .open,
              seatTimer := none, latchOpenTimer := some s.berth.latchOpenTimeout }
              ∧ Raised s t (s.surgeAlert i r) (.eqrArming :: followKinds))
          ∧ ((s.band i).releaseLimit < s.reportTension i r.readings →
              (roomToPay (s.reportLength i r) (s.band i).maxPayout = false →
                (t.st i).record = { (s.st i).record with
                  payoutLength := s.reportLength i r, state := .held, tending := none, operation := none, owner := none,
                  runOutTarget := none }
                  ∧ Raised s t (s.surgeAlert i r ++ [(⟨.opFailed, .station i, 3⟩, (s.st i).record.owner)]) (.eqrArming :: followKinds)
                  ∧ (s.phase ≠ .starting → PlanFollows s t i (s.surgeAlert i r ++ [(⟨.opFailed, .station i, 3⟩, (s.st i).record.owner)])))
              ∧ (roomToPay (s.reportLength i r) (s.band i).maxPayout = true →
                  (t.st i).record = { (s.st i).record with payoutLength := s.reportLength i r })))

/-- R6, R34, R40, R42, R92: PAYOUT ends in PRESENTED at the run-out target lowered to max payout, RELEASING in SLACK at OPEN,
REWINDING in STOWED at the end-stop, each with the OP_DONE of its operation; the last latch to open in UNMOORING brings VACANT,
with PHASE after OP_DONE by the model's choice (log 6); otherwise the state goes on. -/
def Obligations.RunOutReleaseRewindEnd : Prop :=
  ∀ (s : State) (i : StationNo) (r : Report), PlainReport s i r →
    ∃ t, exec (.stationReport i (reportBlock i r)) s = .next t ∧ ReportFrame i s t r
      ∧ (∀ goal n, (s.st i).record.state = .payout → (s.st i).record.operation = some .runOut →
          (s.st i).record.runOutTarget = some goal → s.reportLength i r = some n →
          (min goal (s.band i).maxPayout ≤ n →
            (t.st i).record = { (s.st i).record with
              payoutLength := some n, state := .presented, tending := none, operation := none, owner := none,
              runOutTarget := none }
              ∧ Raised s t (s.surgeAlert i r ++ [(⟨.opDone, .station i, 1⟩, (s.st i).record.owner)]) (.eqrArming :: followKinds))
          ∧ (n < min goal (s.band i).maxPayout →
              (t.st i).record = { (s.st i).record with
                payoutLength := some n, runOutTarget := some (min goal (s.band i).maxPayout) }))
      ∧ ((s.st i).record.state = .releasing →
          (r.readings.latch = .open →
            (t.st i).record = { (s.st i).record.ended with
              payoutLength := s.reportLength i r, state := .slack, tending := none, latchOpenTimer := none }
              ∧ Raised s t (s.surgeAlert i r ++ s.doneAlert i) (.eqrArming :: followKinds)
              ∧ (s.phase ≠ .starting → PlanFollows s t i (s.surgeAlert i r ++ s.doneAlert i)))
          ∧ (r.readings.latch ≠ .open → (t.st i).record = { (s.st i).record with payoutLength := s.reportLength i r }))
      ∧ ((s.st i).record.state = .rewinding → (s.st i).record.operation = some .rewind →
          (r.readings.endStop = true →
            (t.st i).record = { (s.st i).record with
              payoutLength := some 0, state := .stowed, tending := none, operation := none, owner := none,
              runOutTarget := none }
              ∧ Raised s t (s.surgeAlert i r ++ [(⟨.opDone, .station i, 4⟩, (s.st i).record.owner)]) (.eqrArming :: followKinds))
          ∧ (r.readings.endStop = false → (t.st i).record = { (s.st i).record with payoutLength := s.reportLength i r }))

/-- R92, R95 to R97, R101, R105: the keeping step in HELD with the latch CLOSED. With the tending hold set nothing is tested. At the
trip value the station goes to TENDING PAY of class 0 with OVERLOAD(1), or without room to pay stays with OVERLOAD(4) and
LENGTH_LIMIT(3); below it a hi counter at the dwell starts TENDING PAY of class 1, or without room raises LENGTH_LIMIT(1) and
falls by one; a lo counter at the dwell starts TENDING HAUL while no surge timer runs; else the counters are counted and the
station stays. A surge timer that this report starts runs already; its SURGE_START stands first by the model's choice (log 6). -/
def Obligations.HeldKeeping : Prop :=
  ∀ (s : State) (i : StationNo) (r : Report), PlainReport s i r → r.readings.latch = .closed →
    (s.st i).record.state = .held →
    let kept := { (s.st i).record with payoutLength := s.reportLength i r }
    ∃ t, exec (.stationReport i (reportBlock i r)) s = .next t ∧ ReportFrame i s t r
      ∧ ((s.st i).record.tendingHold = true →
          (t.st i).record = kept ∧ (t.st i).tension.hi = (s.st i).tension.hi ∧ (t.st i).tension.lo = (s.st i).tension.lo
            ∧ Raised s t (s.surgeAlert i r) (.eqrArming :: followKinds))
      ∧ ((s.st i).record.tendingHold = false →
          KeptInHeld s t i r kept (s.st i).tension.hi (s.st i).tension.lo (s.surgeTimer.isSome || s.surges i r))

/-- R98, R99, R101, R105: the keeping step in TENDING PAY and in TENDING HAUL with the latch CLOSED. PAY ends in HELD at max payout
with LENGTH_LIMIT(2), after OVERLOAD(4) at the trip value; it goes to class 0 with OVERLOAD(2) at the trip value; it ends in HELD at
or below target plus hysteresis. HAUL reverses to PAY of class 0 with OVERLOAD(3) at the trip value, or without room ends in HELD
with OVERLOAD(4) and LENGTH_LIMIT(3); it ends in HELD at or above target less hysteresis. Otherwise tending goes on. A haul whose
own report starts the surge timer is ended first: the keeping finds the station in HELD with its counters 0 and the timer running,
and its trip test and counting apply. That SURGE_START stands first is the model's choice (log 6). -/
def Obligations.TendingKeeping : Prop :=
  ∀ (s : State) (i : StationNo) (r : Report), PlainReport s i r → r.readings.latch = .closed →
    (s.st i).record.state = .tending →
    let b := s.band i
    let f := s.reportTension i r.readings
    let room := roomToPay (s.reportLength i r) b.maxPayout
    let kept := { (s.st i).record with payoutLength := s.reportLength i r }
    let held := { kept with state := .held, tending := none }
    let raised := fun (t : State) (as : List (AlertKind × Nat)) =>
      Raised s t (s.surgeAlert i r ++ as.map fun a => (⟨a.1, .station i, a.2⟩, none)) (.eqrArming :: followKinds)
    ∃ t, exec (.stationReport i (reportBlock i r)) s = .next t ∧ ReportFrame i s t r
      ∧ (∀ cls, (s.st i).record.tending = some ⟨.pay, cls⟩ →
          (room = false → b.trip ≤ f → (t.st i).record = held ∧ raised t [(.overload, 4), (.lengthLimit, 2)])
          ∧ (room = false → f < b.trip → (t.st i).record = held ∧ raised t [(.lengthLimit, 2)])
          ∧ (room = true → b.trip ≤ f → cls = 0 → (t.st i).record = kept ∧ raised t [])
          ∧ (room = true → b.trip ≤ f → cls ≠ 0 →
              (t.st i).record = { kept with tending := some ⟨.pay, 0⟩ } ∧ raised t [(.overload, 2)])
          ∧ (room = true → f < b.trip → f ≤ b.target + b.hysteresis → (t.st i).record = held ∧ raised t [])
          ∧ (room = true → f < b.trip → b.target + b.hysteresis < f → (t.st i).record = kept ∧ raised t []))
      ∧ (∀ cls, (s.st i).record.tending = some ⟨.haul, cls⟩ → s.startsSurge i r = true →
          ((s.st i).record.tendingHold = true →
            (t.st i).record = held ∧ (t.st i).tension.hi = 0 ∧ (t.st i).tension.lo = 0 ∧ raised t [])
          ∧ ((s.st i).record.tendingHold = false → KeptInHeld s t i r held 0 0 true))
      ∧ (∀ cls, (s.st i).record.tending = some ⟨.haul, cls⟩ → s.startsSurge i r = false →
          (b.trip ≤ f → room = true →
              (t.st i).record = { kept with tending := some ⟨.pay, 0⟩ } ∧ raised t [(.overload, 3)])
          ∧ (b.trip ≤ f → room = false → (t.st i).record = held ∧ raised t [(.overload, 4), (.lengthLimit, 3)])
          ∧ (f < b.trip → b.target - b.hysteresis ≤ f → (t.st i).record = held ∧ raised t [])
          ∧ (f < b.trip → f < b.target - b.hysteresis → (t.st i).record = kept ∧ raised t []))

/-- R82, R103, R105: a surge detection starts the stopped surge timer with SURGE_START, and every station in TENDING HAUL goes
to HELD: every other, and the detecting one, which its own report then takes no further than to a TENDING PAY, a RELEASING or a
FAULTED, as TendingKeeping, ReportFindingsFault and ReconstructionFollowsReport say; while the timer runs it reloads the timer
alone. -/
def Obligations.SurgeStartsTimer : Prop :=
  ∀ (s : State) (i : StationNo) (r : Report), (s.st i).port.block = [] → (s.st i).computed = true → s.surges i r = true →
    ∃ t, exec (.stationReport i (reportBlock i r)) s = .next t ∧ t.surgeTimer = some s.berth.surgeHold
      ∧ (s.surgeTimer = none → (s.st i).hauls = true → (t.st i).hauls = false)
      ∧ (s.surgeTimer = none →
          Raised s t [(⟨.surgeStart, .berth, i.val⟩, none)]
              [.opDone, .opFailed, .fault, .overload, .lengthLimit, .faultCleared, .phase, .planShort, .eqrArming, .preempted]
            ∧ ∀ j, j ≠ i →
                (((s.st j).record.state = .tending ∧ (s.st j).record.tending.map Tending.direction = some .haul) →
                  (t.st j).record = { (s.st j).record with state := .held, tending := none }
                    ∧ (t.st j).tension.hi = 0 ∧ (t.st j).tension.lo = 0)
                ∧ (¬((s.st j).record.state = .tending ∧ (s.st j).record.tending.map Tending.direction = some .haul) →
                    (t.st j).record = (s.st j).record ∧ (t.st j).tension = (s.st j).tension))
      ∧ (s.surgeTimer.isSome = true →
          OthersKept i s t
            ∧ Raised s t []
                [.opDone, .opFailed, .fault, .overload, .lengthLimit, .faultCleared, .phase, .planShort, .eqrArming, .preempted])

/-! ### Timers -/

/-- R3, R6, R17, R40, R48, R67, R68, R71, R73, R74, R163: the report-loss timer, a handshake step of the brake timer, a set watch
whose latest reading is FREE, the stall timer and the latch-open timer put a station that acts on findings into FAULTED with the
cause of each, with the OP_FAILED of an operation in flight and then FAULT. The port is made safe: a brake that was commanded FREE
starts a set watch, and a handshake step that still runs is stopped (R69). Outside STARTING the berth plan follows: in MOORED the
fall of the group's holding count below its minimum sets the short flag and raises PLAN_SHORT once with the count. In STARTING the
report-loss timer of the last settling station ends it. That PHASE and PLAN_SHORT stand after the event's other alerts is the
model's choice (log 6). -/
def Obligations.FaultingTimers : Prop :=
  ∀ (s : State) (i : StationNo), (s.st i).actsOnFinding = true →
    let faults := fun (c : Instr) (cause : FaultCause) =>
      let named := s.failedAlert i .fault ++ [((⟨.fault, .station i, cause.code⟩ : Alert), (none : Option Master))]
      ∃ t, exec c s = .next t ∧ Faulted s t i cause (s.st i).record.payoutLength
        ∧ BrakeMadeSafe s.berth.brakeTimeout
            (if cause = .brake then { (s.st i).port with brakeTimer := .stopped } else (s.st i).port) (t.st i).port
        ∧ SameBerth s t ∧ SameLinks s t ∧ OthersKept i s t
        ∧ t.surgeTimer = s.surgeTimer
        ∧ (t.st i).tension
            = (if cause = .reportLost then { (s.st i).tension with seedPending := true } else (s.st i).tension)
        ∧ Raised s t named (.eqrArming :: followKinds)
        ∧ (s.phase ≠ .starting → PlanFollows s t i named ∧ t.eqr = s.eqr ∧ t.eqrTimer = s.eqrTimer)
        ∧ (s.phase = .starting → cause = .reportLost → StartingFollows s t named)
        ∧ (s.phase = .starting → cause ≠ .reportLost → t.phase = .starting ∧ Raised s t named [.preempted])
    ((s.st i).port.reportLossTimer.isSome = true → faults (.reportLossTimeout i) .reportLost)
      ∧ ((s.st i).port.brakeTimer.isStep = true → faults (.brakeTimeout i) .brake)
      ∧ (∀ d, (s.st i).port.brakeTimer = .watch d → (s.st i).watchFails = true → faults (.setWatchExpiry i) .brake)
      ∧ ((s.st i).port.stallTimer.isSome = true → faults (.stallTimeout i) .stall)
      ∧ ((s.st i).record.latchOpenTimer.isSome = true → (s.st i).record.state = .releasing →
          faults (.latchOpenTimeout i) .latchStuck)

/-- R36: the seat timer that runs out in SEATING has the latch commanded OPEN and takes the station to RELEASING with its SEAT
FAILED(TIMEOUT); the berth plan follows, its alerts after the event's others by the model's choice (log 6). -/
def Obligations.SeatTimeoutReleases : Prop :=
  ∀ (s : State) (i : StationNo), (s.st i).record.seatTimer.isSome = true → (s.st i).record.state = .seating →
    ∃ t, exec (.seatTimeout i) s = .next t ∧ SameBerth s t ∧ SameWatch s t ∧ SameLinks s t ∧ OthersKept i s t
      ∧ (t.st i).record = { (s.st i).record.ended with
          state := .releasing, tending := none, latchCommand := .open, seatTimer := none,
          latchOpenTimer := some s.berth.latchOpenTimeout }
      ∧ (t.st i).tension = (s.st i).tension
      ∧ SameSensed (s.st i).port (t.st i).port
      ∧ Raised s t (s.failedAlert i .timeout) followKinds
      ∧ (s.phase ≠ .starting → PlanFollows s t i (s.failedAlert i .timeout))

/-- R3, R60, R68, R74, R76, R104, R113: the report gap drops the partial block; the report-loss timer of a FAULTED or
OUT_OF_SERVICE station that is not settling stops and sets seed pending, and nothing else (in STARTING with no station settling and
no reload under way, which no run reaches, STARTING then ends as always); a set watch whose latest reading is not FREE, or that
runs out on a settling station or on a FAULTED or OUT_OF_SERVICE one, whatever the reading, just ends (R49); the surge timer ends
with SURGE_END; a holdoff ends in the queue at class 2, or in a grant. -/
def Obligations.QuietTimers : Prop :=
  ∀ (s : State) (i : StationNo),
    exec (.reportGapTimeout i) s = .next (s.modPort i fun p => { p with block := [] })
      ∧ ((s.st i).port.reportLossTimer.isSome = true → (s.st i).settling = false →
          ((s.st i).record.state = .faulted ∨ (s.st i).record.state = .outOfService) →
          ((s.phase ≠ .starting ∨ s.reload ≠ none ∨ ∃ j, (s.st j).settling = true) →
            exec (.reportLossTimeout i) s
              = .next ((s.modSt i fun st =>
                  { st with
                    port := { st.port with reportLossTimer := none }
                    tension := { st.tension with seedPending := true } }).sendSets))
          ∧ (s.phase = .starting → s.reload = none → (∀ j, (s.st j).settling = false) →
              ∃ t, exec (.reportLossTimeout i) s = .next t ∧ StartingEnds s t [] ∧ SameBerth s t ∧ SameLinks s t
                ∧ OthersKept i s t ∧ (t.st i).record = (s.st i).record
                ∧ (t.st i).port.reportLossTimer = none
                ∧ (t.st i).tension = { (s.st i).tension with seedPending := true }))
      ∧ (∀ d, (s.st i).port.brakeTimer = .watch d → ((s.st i).watchFails = false ∨ (s.st i).actsOnFinding = false) →
          exec (.setWatchExpiry i) s = .next ((s.modPort i fun p => { p with brakeTimer := .stopped }).sendSets))
      ∧ (s.surgeTimer.isSome = true →
          exec .surgeTimerExpiry s = .next ({ s with surgeTimer := none }.raise .surgeEnd .berth 0))
      ∧ (s.driveStatus i = .holdoff →
          ∃ t, exec (.holdoffExpiry i) s = .next t ∧ (t.driveStatus i = .queued 2 ∨ t.driveStatus i = .granted)
            ∧ SameBerth s t ∧ SameWatch s t ∧ SameLinks s t ∧ t.phase = s.phase ∧ t.shortFlags = s.shortFlags
            ∧ (∀ j, (t.st j).record = (s.st j).record ∧ (t.st j).tension = (s.st j).tension
                ∧ SameSensed (s.st j).port (t.st j).port)
            ∧ Raised s t [] [.preempted])

/-! ### The safety inputs -/

/-- R149, R150: the release line. Asserted in IDLE outside STARTING it arms, with the timer and EQR_ARMING; in STARTING its level is
recorded alone. Deasserted, an arming release is abandoned with EQR_ABANDONED, a fired one returns to IDLE, and nothing else
changes. -/
def Obligations.ReleaseLineArmsAndAbandons : Prop :=
  ∀ s : State,
    (s.releaseLine = false → s.phase ≠ .starting → s.eqr = .idle →
        exec .vesselReleaseAsserted s
          = .next ({ s with releaseLine := true, eqr := .arming, eqrTimer := some s.berth.eqrHold }.raise .eqrArming .berth 0))
      ∧ (s.releaseLine = false → (s.phase = .starting ∨ s.eqr ≠ .idle) →
          exec .vesselReleaseAsserted s = .next { s with releaseLine := true })
      ∧ (s.releaseLine = true → s.eqr = .arming →
          exec .vesselReleaseDeasserted s
            = .next ({ s with releaseLine := false, eqr := .idle, eqrTimer := none }.raise .eqrAbandoned .berth 0))
      ∧ (s.releaseLine = true → s.eqr = .fired →
          exec .vesselReleaseDeasserted s = .next { s with releaseLine := false, eqr := .idle })
      ∧ (s.releaseLine = true → s.eqr = .idle → exec .vesselReleaseDeasserted s = .next { s with releaseLine := false })

/-- R7, R30, R69, R74, R151, R152: the firing sets the phase EMERGENCY with PHASE and EQR_FIRED, opens every line on the ferry,
stops every PAYOUT in SLACK, commands OPEN on a FAULTED station whose latch is not OPEN, and leaves every other station's record as
it is. The tending hold and the payout length of a station it moves are kept. The port of each station on which it acts is made
safe, as at a fault: a brake that was commanded FREE starts a set watch, and a running handshake step is stopped (R69, R74). Each
operation that it ends raises OP_FAILED(EMERGENCY). That the firing reaches the stations in their order, with the Arbiter's tests
between two of them, is the model's choice (log 7). -/
def Obligations.FiringOpensLines : Prop :=
  ∀ s : State, s.eqr = .arming → s.eqrTimer.isSome = true →
    ∃ t, exec .eqrTimerExpiry s = .next t ∧ t.phase = .emergency ∧ t.eqr = .fired ∧ t.eqrTimer = none
      ∧ SameBerth s t ∧ SameLinks s t ∧ t.surgeTimer = s.surgeTimer
      ∧ (∀ i, (t.st i).tension = (s.st i).tension ∧ SameSensed (s.st i).port (t.st i).port)
      ∧ (∀ i, (s.st i).settling = false →
          ((s.st i).record.state = .seating ∨ (s.st i).record.state = .takeup ∨ (s.st i).record.state = .held
            ∨ (s.st i).record.state = .tending ∨ (s.st i).record.state = .easing) →
          (t.st i).record = { (s.st i).record.ended with
              state := .releasing, tending := none, latchCommand := .open, seatTimer := none,
              latchOpenTimer := some s.berth.latchOpenTimeout }
            ∧ FiredSafe s t i)
      ∧ (∀ i, (s.st i).settling = false → (s.st i).record.state = .payout →
          (t.st i).record = { (s.st i).record.ended with state := .slack, tending := none } ∧ FiredSafe s t i)
      ∧ (∀ i, (s.st i).record.state = .faulted → (s.st i).latchReading ≠ .open →
          (t.st i).record = { (s.st i).record with latchCommand := .open } ∧ FiredSafe s t i)
      ∧ (∀ i, ((s.st i).settling = true ∧ (s.st i).record.state ≠ .faulted)
            ∨ ((s.st i).record.state = .faulted ∧ (s.st i).latchReading = .open)
            ∨ (s.st i).record.state = .releasing ∨ (s.st i).record.state = .rewinding ∨ (s.st i).record.state = .stowed
            ∨ (s.st i).record.state = .slack ∨ (s.st i).record.state = .presented ∨ (s.st i).record.state = .outOfService →
          (t.st i).record = (s.st i).record
            ∧ (s.driveStatus i = .idle →
                (t.st i).port.handshake = (s.st i).port.handshake ∧ (t.st i).port.drive = (s.st i).port.drive
                  ∧ (t.st i).port.brake = (s.st i).port.brake ∧ (t.st i).port.brakeTimer = (s.st i).port.brakeTimer))
      ∧ Raised s t
          ((if s.phase = .emergency then [] else [(⟨.phase, .berth, 5⟩, none)]) ++ [(⟨.eqrFired, .berth, 0⟩, none)]
            ++ s.firingAlerts) [.preempted]

/-- R73, R116, R117, R153: the quay stop asserted stops every active holder through the end-of-motion handshake, marked for
re-queuing; a holder that returns already goes on returning as it was, with its mark. It leaves the queue, the other stations' ports
and every station's record, and raises QUAY_STOP with detail 1; released, it leaves no grant undone and raises QUAY_STOP with detail
0. A change to the level the line has changes nothing (log 4). -/
def Obligations.QuayStopFreezesDrives : Prop :=
  ∀ s : State,
    (s.quayStop = false →
        ∃ t, exec .quayStopAsserted s = .next t ∧ t.quayStop = true ∧ t.queue = s.queue ∧ t.holdoffs = s.holdoffs
          ∧ (t.holders.map fun h => (h.station, h.cls, h.grantTime)) = (s.holders.map fun h => (h.station, h.cls, h.grantTime))
          ∧ (∀ h ∈ t.holders, h.active = false)
          ∧ (s.arbiterDistinct = true →
              t.holders = s.holders.map fun h => if h.condition = .active then { h with condition := .returning .requeue } else h)
          ∧ (∀ h ∈ s.holders, h.active = true →
              ((s.st h.station).port.handshake = .freeing ∨ (s.st h.station).port.handshake = .driving) →
              (t.st h.station).port.handshake = .setting ∧ (t.st h.station).port.drive = .hold
                ∧ (t.st h.station).port.brake = .set ∧ (t.st h.station).port.stallTimer = none
                ∧ (t.st h.station).port.brakeTimer = .step s.berth.brakeTimeout)
          ∧ (∀ i, (∀ h ∈ s.holders, h.station = i → h.active = false) →
              (t.st i).port.handshake = (s.st i).port.handshake ∧ (t.st i).port.drive = (s.st i).port.drive
                ∧ (t.st i).port.brake = (s.st i).port.brake ∧ (t.st i).port.brakeTimer = (s.st i).port.brakeTimer
                ∧ (t.st i).port.stallTimer = (s.st i).port.stallTimer)
          ∧ (∀ i, (t.st i).record = (s.st i).record ∧ (t.st i).tension = (s.st i).tension
              ∧ SameSensed (s.st i).port (t.st i).port)
          ∧ SameWatch s t ∧ SameLinks s t ∧ t.phase = s.phase ∧ t.params = s.params ∧ t.localControl = s.localControl
          ∧ t.memory = s.memory ∧ t.pending = s.pending
          ∧ Raised s t [(⟨.quayStop, .berth, 1⟩, none)] [])
      ∧ (s.quayStop = true →
          ∃ t, exec .quayStopReleased s = .next t ∧ t.quayStop = false ∧ t.arbiterSettled = true
            ∧ (∀ i, (t.st i).record = (s.st i).record ∧ (t.st i).tension = (s.st i).tension
                ∧ SameSensed (s.st i).port (t.st i).port)
            ∧ SameWatch s t ∧ SameLinks s t ∧ t.phase = s.phase ∧ t.params = s.params ∧ t.localControl = s.localControl
            ∧ t.memory = s.memory ∧ t.pending = s.pending
            ∧ Raised s t [(⟨.quayStop, .berth, 0⟩, none)] [.preempted])
      ∧ (s.quayStop = true → exec .quayStopAsserted s = .next s)
      ∧ (s.quayStop = false → exec .quayStopReleased s = .next s)

/-! ### Station orders -/

/-- R29, R33: RUN_OUT on a STOWED or SLACK station of known length, in ALONGSIDE or MOORED: the target is clamped to max payout;
the station goes to PAYOUT with a class-2 request, or, at or past the target already, to PRESENTED with OP_DONE. That a length known
before a berth reset is known after it is the model's choice against the NOTE of R33 (log 33). In another phase the order is
refused PHASE; in these two, WRONG_STATE on a station that settles, is in another state, or has no known length (R21, R56). -/
def Obligations.RunOutCompletes : Prop :=
  ∀ (s : State) (a : OrderArgs) (i : StationNo), ReachesStation s a.link (rowOrder .runOut a) i →
    MayOperate s a.link i → a.params.length = 2 →
    (s.phase ≠ .alongside → s.phase ≠ .moored → RefusedWith s (.runOut a) a.link (rowOrder .runOut a) .phase)
    ∧ ((s.phase = .alongside ∨ s.phase = .moored) →
        ((s.st i).settling = true ∨ ((s.st i).record.state ≠ .stowed ∧ (s.st i).record.state ≠ .slack)
          ∨ (s.st i).record.payoutLength = none) →
        RefusedWith s (.runOut a) a.link (rowOrder .runOut a) .wrongState)
    ∧ ∀ n : Nat, (s.phase = .alongside ∨ s.phase = .moored) →
        (s.st i).settling = false → ((s.st i).record.state = .stowed ∨ (s.st i).record.state = .slack) →
        (s.st i).record.payoutLength = some n →
        let goal := min (numberOf a.params) (s.band i).maxPayout
        ∃ t, exec (.runOut a) s = .next t ∧ SameBerth s t ∧ SameWatch s t ∧ OthersKept i s t
          ∧ t.phase = s.phase ∧ t.shortFlags = s.shortFlags
          ∧ (t.st i).tension = (s.st i).tension ∧ SameSensed (s.st i).port (t.st i).port
          ∧ Answered s t a.link (rowOrder .runOut a) (.plain .accepted)
          ∧ (n < goal →
              (t.st i).record = { (s.st i).record with
                state := .payout, tending := none, operation := some .runOut, owner := some a.link, runOutTarget := some goal }
                ∧ (s.driveStatus i = .idle → t.driveStatus i = .queued 2 ∨ t.driveStatus i = .granted)
                ∧ Raised s t (s.failedAlert i .cancelled) [.preempted])
          ∧ (goal ≤ n →
              (t.st i).record = { (s.st i).record with
                state := .presented, tending := none, operation := none, owner := none, runOutTarget := none }
                ∧ Raised s t (s.failedAlert i .cancelled ++ [(⟨.opDone, .station i, 1⟩, some a.link)]) [.preempted])

/-- R26, R29, R35: SEAT on a PRESENTED station in ALONGSIDE or MOORED: SEATING, the latch commanded CLOSE, the seat timer started.
In another phase the order is refused PHASE; in these two, WRONG_STATE on a station that settles or is in another state (R21, R56).
-/
def Obligations.SeatCompletes : Prop :=
  ∀ (s : State) (a : OrderArgs) (i : StationNo), ReachesStation s a.link (rowOrder .seat a) i →
    MayOperate s a.link i → a.params = [] →
    (s.phase ≠ .alongside → s.phase ≠ .moored → RefusedWith s (.seat a) a.link (rowOrder .seat a) .phase)
    ∧ ((s.phase = .alongside ∨ s.phase = .moored) → ((s.st i).settling = true ∨ (s.st i).record.state ≠ .presented) →
        RefusedWith s (.seat a) a.link (rowOrder .seat a) .wrongState)
    ∧ ((s.phase = .alongside ∨ s.phase = .moored) →
        (s.st i).settling = false → (s.st i).record.state = .presented →
        ∃ t, exec (.seat a) s = .next t ∧ SameBerth s t ∧ SameWatch s t ∧ OthersKept i s t
          ∧ t.phase = s.phase ∧ t.shortFlags = s.shortFlags
          ∧ (t.st i).tension = (s.st i).tension ∧ SameSensed (s.st i).port (t.st i).port
          ∧ (t.st i).record = { (s.st i).record with
              state := .seating, tending := none, operation := some .seat, owner := some a.link, runOutTarget := none,
              latchCommand := .close, seatTimer := some s.berth.seatTimeout }
          ∧ (t.holders = s.holders ∧ t.queue = s.queue ∧ t.holdoffs = s.holdoffs)
          ∧ Answered s t a.link (rowOrder .seat a) (.plain .accepted)
          ∧ Raised s t (s.failedAlert i .cancelled) [])

/-- R17, R24, R29, R38, R39, R40: RELEASE on a TAKEUP, HELD or TENDING station that passes the release gate: at or below the
release limit the latch is commanded OPEN and the station goes to RELEASING, its drive request withdrawn; else to EASING with a
class-1 request: a grant or queue entry of class 1 is kept as it stands, a queue entry of class 0 is put at the tail of class 1, a
holder of class 0 is recorded at class 1, and a station with neither joins the queue or is granted. The berth plan follows, its
alerts after the event's others by the model's choice (log 6). -/
def Obligations.ReleaseCompletes : Prop :=
  ∀ (s : State) (a : OrderArgs) (i : StationNo) (f : Nat), ReachesStation s a.link (rowOrder .release a) i →
    MayOperate s a.link i → a.params = [] → (s.phase = .alongside ∨ s.phase = .moored ∨ s.phase = .unmooring) →
    (s.st i).settling = false →
    ((s.st i).record.state = .takeup ∨ (s.st i).record.state = .held ∨ (s.st i).record.state = .tending) →
    s.releaseGate i = none → (s.st i).tension.filtered = some f →
    ∃ t, exec (.release a) s = .next t ∧ SameBerth s t ∧ SameWatch s t ∧ OthersKept i s t
      ∧ (t.st i).tension = (s.st i).tension ∧ SameSensed (s.st i).port (t.st i).port
      ∧ Answered s t a.link (rowOrder .release a) (.plain .accepted)
      ∧ Raised s t (s.failedAlert i .cancelled) followKinds
      ∧ PlanFollows s t i (s.failedAlert i .cancelled)
      ∧ (f ≤ (s.band i).releaseLimit →
          (t.st i).record = { (s.st i).record with
            state := .releasing, tending := none, operation := some .release, owner := some a.link, runOutTarget := none,
            latchCommand := .open, seatTimer := none, latchOpenTimer := some s.berth.latchOpenTimeout }
            ∧ (s.drivesSound = true →
                ((∀ h, s.holderOf i ≠ some h) → t.driveStatus i = .idle)
                  ∧ (∀ h, s.holderOf i = some h → t.driveStatus i = .granted ∧ (t.st i).port.handshake = .setting
                      ∧ (t.st i).port.drive = .hold ∧ (t.st i).port.brake = .set ∧ (t.st i).port.stallTimer = none)))
      ∧ ((s.band i).releaseLimit < f →
          (t.st i).record = { (s.st i).record with
            state := .easing, tending := none, operation := some .release, owner := some a.link, runOutTarget := none }
            ∧ (s.driveStatus i = .idle → (s.st i).record.state = .held →
                t.driveStatus i = .queued 1 ∨ t.driveStatus i = .granted)
            ∧ (s.drivesSound = true →
                (∀ h, s.holderOf i = some h → (s.st i).record.state = .held → t.holders = s.holders ∧ t.queue = s.queue)
                  ∧ (∀ h, s.holderOf i = some h → (s.st i).record.state ≠ .held → h.cls = 1 →
                      t.holders = s.holders ∧ t.queue = s.queue ∧ t.holdoffs = s.holdoffs)
                  ∧ (∀ h, s.holderOf i = some h → (s.st i).record.state ≠ .held → h.cls ≠ 1 →
                      t.holderOf i = some { h with cls := 1 })
                  ∧ (∀ e, s.queuedAs i = some e → e.cls = 1 →
                      t.holders = s.holders ∧ t.queue = s.queue ∧ t.holdoffs = s.holdoffs)
                  ∧ (∀ e, s.queuedAs i = some e → e.cls ≠ 1 →
                      t.driveStatus i = .queued 1 ∨ t.driveStatus i = .granted)
                  ∧ (∀ e, s.queuedAs i = some e → e.cls ≠ 1 → (s.quayStop = true ∨ s.berth.grantLimit ≤ s.holders.length) →
                      t.queue = (s.queue.filter fun k => k.station ≠ i && decide (k.cls ≤ 1)) ++ ⟨i, 1, none⟩
                        :: s.queue.filter fun k => decide (1 < k.cls))))

/-- R15, R16, R18 to R21, R31, R38, R122, R124 to R128: a RELEASE on one station is checked in the order of R122, and the first step
that fails gives the answer: STARTING, BAD_FORMAT, NO_AUTHORITY, LOCAL_CONTROL, BUSY, PHASE, WRONG_STATE, PLAN_MINIMUM in MOORED,
SEQUENCE in UNMOORING. What these terms mean is said in the rules' words, in every configuration that StepKeepsConfiguration speaks
of: the master's level on the station's scope; a local group and a master other than the quay; an operation in flight owned by
another master; a holding station of a group whose count less one is below its minimum; a group of lower rank, or for a rank above 0
the ungrouped stations, with a latch engaged. Each of the four operation orders is refused so for authority, local control and
ownership, and TEND and CLEAR_FAULT for the first two, with nothing changed but the answer. -/
def Obligations.ReleaseChecksInOrder : Prop :=
  (∀ (s : State) (a : OrderArgs) (i : StationNo), s.takesNow a.link (rowOrder .release a) = true →
    targetOf a.target = .station i →
    ∃ t, exec (.release a) s = .next t
      ∧ (t.link a.link).sending = some (answerFrame 0x03 a.tag (.plain
          (if s.phase = .starting then .starting
           else if a.params ≠ [] then .badFormat
           else if s.authority a.link (s.scopeOf i) ≠ .order then .noAuthority
           else if s.heldLocal a.link i then .localControl
           else if s.ownedByOther a.link i then .busy
           else if s.phase ≠ .alongside ∧ s.phase ≠ .moored ∧ s.phase ≠ .unmooring then .phase
           else if (s.st i).settling ∨ ((s.st i).record.state ≠ .takeup ∧ (s.st i).record.state ≠ .held
               ∧ (s.st i).record.state ≠ .tending) then .wrongState
           else if s.phase = .moored ∧ s.belowMinimum i then .planMinimum
           else if s.phase = .unmooring ∧ s.outOfSequence i then .sequence
           else .accepted))))
    ∧ (∀ (s : State) (m : Master) (i : StationNo), s.params.sound = true → CheckTerms s m i)
    ∧ ∀ (s : State) (a : OrderArgs) (i : StationNo) (row : OrderArgs → Instr) (n : Nat) (o : Order),
        (row, n) ∈ [(Instr.runOut, 2), (.seat, 0), (.release, 0), (.rewind, 0), (.tend, 0), (.clearFault, 0)] →
        orderOfRow (row a) = some (a.link, o) → ReachesStation s a.link o i → a.params.length = n →
        let refused := fun v : Verdict => exec (row a) s = .next (((s.taken a.link o).answer a.link o (.plain v)).sendSets)
        (s.mayOrder a.link i = false → refused .noAuthority)
          ∧ (s.mayOrder a.link i = true → s.heldLocal a.link i = true → refused .localControl)
          ∧ (s.mayOrder a.link i = true → s.heldLocal a.link i = false → s.ownedByOther a.link i = true →
              o.code ∉ [(rowOrder .tend a).code, (rowOrder .clearFault a).code] → refused .busy)

/-- R27, R29, R41, R72, R111: REWIND on a SLACK, PRESENTED or PAYOUT station, in any phase but STARTING: REWINDING; a RUN_OUT in
flight ends FAILED(CANCELLED) first. From SLACK or PRESENTED the station asks for a grant at class 2; where a grant of an ended
motion is still returning, that goes on as it was and nothing is asked yet. From PAYOUT it keeps its holdoff, its queue entry or
its grant; a station that drives reverses from PAY to HAUL with its brake FREE and its stall timer restarted, and one in FREEING
or SETTING goes on there. In every other state, and on a settling station, the order is refused WRONG_STATE (R56). -/
def Obligations.RewindCompletes : Prop :=
  ∀ (s : State) (a : OrderArgs) (i : StationNo), ReachesStation s a.link (rowOrder .rewind a) i →
    MayOperate s a.link i → a.params = [] →
    (((s.st i).settling = true ∨ ((s.st i).record.state ≠ .slack ∧ (s.st i).record.state ≠ .presented
          ∧ (s.st i).record.state ≠ .payout)) →
        RefusedWith s (.rewind a) a.link (rowOrder .rewind a) .wrongState)
    ∧ ((s.st i).settling = false →
        ((s.st i).record.state = .slack ∨ (s.st i).record.state = .presented ∨ (s.st i).record.state = .payout) →
        ∃ t, exec (.rewind a) s = .next t ∧ SameBerth s t ∧ SameWatch s t ∧ OthersKept i s t
          ∧ t.phase = s.phase ∧ t.shortFlags = s.shortFlags
          ∧ (t.st i).tension = (s.st i).tension ∧ SameSensed (s.st i).port (t.st i).port
          ∧ (t.st i).record = { (s.st i).record with
              state := .rewinding, tending := none, operation := some .rewind, owner := some a.link, runOutTarget := none }
          ∧ ((s.st i).record.state ≠ .payout → s.driveStatus i = .idle →
              t.driveStatus i = .queued 2 ∨ t.driveStatus i = .granted)
          ∧ (∀ h, (s.st i).record.state ≠ .payout → s.holderOf i = some h →
              t.holders = s.holders ∧ t.queue = s.queue ∧ t.holdoffs = s.holdoffs
                ∧ (t.st i).port.handshake = (s.st i).port.handshake ∧ (t.st i).port.drive = (s.st i).port.drive
                ∧ (t.st i).port.brake = (s.st i).port.brake)
          ∧ ((s.st i).record.state = .payout → s.driveStatus i = .holdoff →
              t.driveStatus i = .holdoff ∧ t.holdoffs = s.holdoffs)
          ∧ ((s.st i).record.state = .payout → s.drivesSound = true →
              (∀ e, s.queuedAs i = some e → t.holders = s.holders ∧ t.queue = s.queue ∧ t.holdoffs = s.holdoffs)
                ∧ (∀ h, s.holderOf i = some h → t.holderOf i = some { h with cls := 2 }
                    ∧ (h.cls = 2 → t.holders = s.holders ∧ t.queue = s.queue ∧ t.holdoffs = s.holdoffs)
                    ∧ ((s.st i).port.handshake = .driving → (s.st i).port.drive = .pay →
                        (t.st i).port.handshake = .driving ∧ (t.st i).port.drive = .haul ∧ (t.st i).port.brake = .free
                          ∧ (t.st i).port.brakeTimer = .stopped ∧ (t.st i).port.stallTimer = some s.berth.stallInterval)
                    ∧ ((s.st i).port.handshake = .freeing ∨ (s.st i).port.handshake = .setting →
                        (t.st i).port.handshake = (s.st i).port.handshake ∧ (t.st i).port.drive = (s.st i).port.drive
                          ∧ (t.st i).port.brake = (s.st i).port.brake ∧ (t.st i).port.brakeTimer = (s.st i).port.brakeTimer)))
          ∧ Answered s t a.link (rowOrder .rewind a) (.plain .accepted)
          ∧ Raised s t (s.failedAlert i .cancelled) [.preempted])

/-- R5, R17, R43, R125: STOP from a master that may observe the station: PAYOUT and REWINDING go to SLACK, SEATING to RELEASING
with the latch commanded OPEN, TAKEUP, TENDING and EASING to HELD with the tending hold set, HELD has it set; STOWED, SLACK and
PRESENTED are left as they are; RELEASING, FAULTED and OUT_OF_SERVICE are refused WRONG_STATE, and the others answered DONE. A
station whose state asks for the drive loses its queue entry or its holdoff, or its grant returns through the handshake (R111,
R113); the others keep their standing. A settling station is refused WRONG_STATE (R56), and a master that may not observe the
station NO_AUTHORITY. That a STOP on a HELD station keeps its dwell counters and raises nothing is the model's reading (log 14), and
that the berth plan's alerts stand after the event's others its choice (log 6). -/
def Obligations.StopCompletes : Prop :=
  ∀ (s : State) (a : OrderArgs) (i : StationNo), ReachesStation s a.link (rowOrder .stop a) i → a.params = [] →
    (s.mayObserve a.link i = false → RefusedWith s (.stop a) a.link (rowOrder .stop a) .noAuthority)
    ∧ (s.mayObserve a.link i = true → (s.st i).settling = true →
        RefusedWith s (.stop a) a.link (rowOrder .stop a) .wrongState)
    ∧ (s.mayObserve a.link i = true → (s.st i).settling = false →
        let r := (s.st i).record
        ∃ t, exec (.stop a) s = .next t ∧ SameBerth s t ∧ SameWatch s t ∧ OthersKept i s t
          ∧ SameSensed (s.st i).port (t.st i).port
          ∧ ((r.state = .payout ∨ r.state = .rewinding) →
              (t.st i).record = { r.ended with state := .slack, tending := none } ∧ (t.st i).tension = (s.st i).tension
                ∧ Raised s t (s.failedAlert i .cancelled) followKinds)
          ∧ (r.state = .seating →
              (t.st i).record = { r.ended with
                  state := .releasing, tending := none, latchCommand := .open, seatTimer := none,
                  latchOpenTimer := some s.berth.latchOpenTimeout }
                ∧ (t.st i).tension = (s.st i).tension
                ∧ Raised s t (s.failedAlert i .cancelled) followKinds)
          ∧ ((r.state = .takeup ∨ r.state = .tending ∨ r.state = .easing) →
              (t.st i).record = { r.ended with state := .held, tending := none, tendingHold := true }
                ∧ (t.st i).tension = { (s.st i).tension with hi := 0, lo := 0 } ∧ Raised s t (s.failedAlert i .cancelled) followKinds
                ∧ PlanFollows s t i (s.failedAlert i .cancelled))
          ∧ (r.state = .held →
              (t.st i).record = { r with tendingHold := true } ∧ (t.st i).tension = (s.st i).tension
                ∧ t.mailboxes = s.mailboxes)
          ∧ ((r.state = .stowed ∨ r.state = .slack ∨ r.state = .presented) →
              (t.st i).record = r ∧ (t.st i).tension = (s.st i).tension ∧ t.mailboxes = s.mailboxes)
          ∧ ((r.state = .releasing ∨ r.state = .faulted ∨ r.state = .outOfService) →
              (t.st i).record = r ∧ (t.st i).tension = (s.st i).tension ∧ t.mailboxes = s.mailboxes
                ∧ Answered s t a.link (rowOrder .stop a) (.plain .wrongState))
          ∧ ((r.state ≠ .releasing ∧ r.state ≠ .faulted ∧ r.state ≠ .outOfService) →
              Answered s t a.link (rowOrder .stop a) (.plain .done))
          ∧ (s.drivesSound = true → s.arbiterSettled = true → (s.st i).request.isSome = true → GrantEnds s t i)
          ∧ ((s.st i).request = none →
              t.holders = s.holders ∧ t.queue = s.queue ∧ t.holdoffs = s.holdoffs
                ∧ (t.st i).port.handshake = (s.st i).port.handshake ∧ (t.st i).port.drive = (s.st i).port.drive
                ∧ (t.st i).port.brake = (s.st i).port.brake ∧ (t.st i).port.brakeTimer = (s.st i).port.brakeTimer))

/-- R44, R47, R53, R56, R69: TEND clears the tending hold of a HELD station, and is refused WRONG_STATE without it and in every
other state. CLEAR_FAULT on a FAULTED station whose condition is absent at the most recent report (the latch OPEN or CLOSED, the
brake SET, a report since the fault, the module fault clear, the sample not saturated, by the cause) begins its reconstruction: it
stays FAULTED, settling, its report-loss timer restarted, its filter to be seeded, and its port made safe: a brake that was
commanded FREE starts a set watch, and a running handshake step is stopped (R69, R74). With the condition present, while settling,
and in every other state it is refused WRONG_STATE. -/
def Obligations.TendAndClearFaultComplete : Prop :=
  ∀ (s : State) (a : OrderArgs) (i : StationNo), a.params = [] → s.mayOrder a.link i = true → s.heldLocal a.link i = false →
    let refused := fun (row : OrderArgs → Instr) (c : OrderCode) =>
      exec (row a) s = .next (((s.taken a.link (rowOrder c a)).answer a.link (rowOrder c a) (.plain .wrongState)).sendSets)
    (ReachesStation s a.link (rowOrder .tend a) i → (s.st i).settling = false → (s.st i).record.state = .held →
        (s.st i).record.tendingHold = true →
        exec (.tend a) s
          = .next ((((s.taken a.link (rowOrder .tend a)).modRecord i fun r => { r with tendingHold := false }).answer a.link
              (rowOrder .tend a) (.plain .done)).sendSets))
      ∧ (ReachesStation s a.link (rowOrder .tend a) i →
          ((s.st i).settling = true ∨ (s.st i).record.state ≠ .held ∨ (s.st i).record.tendingHold = false) → refused .tend .tend)
      ∧ (∀ cause, ReachesStation s a.link (rowOrder .clearFault a) i → (s.st i).settling = false →
          (s.st i).record.state = .faulted → (s.st i).record.faultCause = some cause → (s.st i).ConditionAbsent cause →
          ∃ t, exec (.clearFault a) s = .next t ∧ SameBerth s t ∧ SameWatch s t ∧ OthersKept i s t
            ∧ t.phase = s.phase ∧ t.shortFlags = s.shortFlags
            ∧ (t.st i).record = { (s.st i).record with seatTimer := none, latchOpenTimer := none, recon := some .clearFault }
            ∧ (t.st i).tension = { (s.st i).tension with seedPending := true }
            ∧ ReconstructionBegun s t i
            ∧ Answered s t a.link (rowOrder .clearFault a) (.plain .done)
            ∧ Raised s t [] [.preempted])
      ∧ (ReachesStation s a.link (rowOrder .clearFault a) i →
          ((s.st i).settling = true ∨ (s.st i).record.state ≠ .faulted
            ∨ ∃ cause, (s.st i).record.faultCause = some cause ∧ ¬(s.st i).ConditionAbsent cause) →
          refused .clearFault .clearFault)

/-- R45, R46, R125: SET_SERVICE from the shore link. Out takes a STOWED or SLACK station with drive status IDLE, or a FAULTED one
with its latch OPEN, out of service. In empties the history ring of an OUT_OF_SERVICE station and begins its reconstruction, with
its port made safe and its report-loss timer restarted (R69). From
another link both are refused NO_AUTHORITY. From the shore link, out is refused WRONG_STATE on every other station, a settling one
included (R56), and in likewise on one that settles or is not OUT_OF_SERVICE. -/
def Obligations.ServiceOrdersComplete : Prop :=
  ∀ (s : State) (a : OrderArgs) (i : StationNo), a.params = [] →
    let out : Order := { rowOrder .setService a with params := [0] }
    let back : Order := { rowOrder .setService a with params := [1] }
    let leaves := (s.st i).settling = false ∧
      ((((s.st i).record.state = .stowed ∨ (s.st i).record.state = .slack) ∧ s.driveStatus i = .idle)
        ∨ ((s.st i).record.state = .faulted ∧ ((s.st i).port.readings = none
            ∨ ∃ r, (s.st i).port.readings = some r ∧ r.latch = .open)))
    (ReachesStation s .shore out i → a.link = .shore → leaves →
        ∃ t, exec (.setServiceOut a) s = .next t ∧ SameBerth s t ∧ SameWatch s t ∧ OthersKept i s t
          ∧ (t.st i).record = { (s.st i).record with state := .outOfService, tending := none }
          ∧ (t.st i).tension = (s.st i).tension ∧ SameSensed (s.st i).port (t.st i).port
          ∧ Answered s t .shore out (.plain .done) ∧ t.mailboxes = s.mailboxes)
      ∧ (ReachesStation s .shore out i → a.link = .shore → ¬leaves → RefusedWith s (.setServiceOut a) .shore out .wrongState)
      ∧ (ReachesStation s .shore back i → a.link = .shore →
          ((s.st i).settling = true ∨ (s.st i).record.state ≠ .outOfService) →
          RefusedWith s (.setServiceIn a) .shore back .wrongState)
      ∧ (ReachesStation s .shore back i → a.link = .shore → (s.st i).settling = false →
          (s.st i).record.state = .outOfService →
          ∃ t, exec (.setServiceIn a) s = .next t ∧ SameBerth s t ∧ SameWatch s t ∧ OthersKept i s t
            ∧ t.phase = s.phase ∧ t.shortFlags = s.shortFlags
            ∧ (t.st i).record = { (s.st i).record with seatTimer := none, latchOpenTimer := none, recon := some .service }
            ∧ (t.st i).tension = { (s.st i).tension with history := [], seedPending := true }
            ∧ ReconstructionBegun s t i
            ∧ Answered s t .shore back (.plain .done) ∧ Raised s t [] [.preempted])
      ∧ (a.link ≠ .shore → ReachesStation s a.link out i → RefusedWith s (.setServiceOut a) a.link out .noAuthority)
      ∧ (a.link ≠ .shore → ReachesStation s a.link back i → RefusedWith s (.setServiceIn a) a.link back .noAuthority)

/-- R121, R123, R129, R130: each of the nine station orders, aimed at an enabled group or at all stations, leaves the part as the
same order given for each station of the target in turn, aimed at it alone, would. If a station takes it, the answer is ACCEPTED
with the applied map and the reason of the lowest-numbered station that refused, or ACCEPTED; if none does, it is that reason
alone. The Order Unit works such an order turn by turn: taken, it is under way on the stations of the target; each turn has the
part, as it stands then, do what the order aimed at the next station alone would do, so that a report, a timer, a firing or a
change of a line may come between two stations; after the last the answer is built. That the row itself takes all turns with no
event between is the model's form (log 10). That an enabled group's last is no lower than its first is R10, which
StepKeepsConfiguration keeps. -/
def Obligations.OrdersOnSeveralStations : Prop :=
  ∀ (a : OrderArgs) (row : (OrderArgs → Instr) × Nat) (m : Master) (o : Order), row ∈ stationRows →
    orderOfRow (row.1 a) = some (m, o) → a.params.length = row.2 →
    (∀ s : State, s.takesNow m o = true → s.phase ≠ .starting →
        (targetOf a.target = .all ∨ ∃ g, targetOf a.target = .group g ∧ (s.group g).enabled = true
          ∧ (s.group g).first ≤ (s.group g).last) →
        (s.modLink m (Link.place o)).serveNext
            = { s.taken m o with underWay := some ⟨m, o, s.targetStations (targetOf a.target), []⟩ }.sendSets
          ∧ ∃ t u outcomes, exec (row.1 a) s = .next t
            ∧ inTurn row.1 a (s.targetStations (targetOf a.target)) s = some (u, outcomes)
            ∧ t.blocks = u.blocks ∧ SameBerth s t ∧ SameWatch s t
            ∧ let map := ((outcomes.filter fun x => takenByte x.2).map fun x => 2 ^ x.1.val).sum
              let reason := match outcomes.find? fun x => !takenByte x.2 with | some x => x.2 | none => Verdict.accepted.byte
              (outcomes.any (fun x => takenByte x.2) = true →
                Answered s t m o { verdict := .accepted, data := le16 map ++ [reason] })
              ∧ (outcomes.any (fun x => takenByte x.2) = false → ∃ v : Verdict, v.byte = reason ∧ Answered s t m o (.plain v)))
      ∧ (∀ (s : State) (i : StationNo) (rest : List StationNo) (results : List (StationNo × Option Verdict)),
          s.underWay = some ⟨m, o, i :: rest, results⟩ → s.reload = none → s.phase ≠ .starting →
          ∃ u b v, exec (row.1 { a with target := byteOf i.val }) ({ s with underWay := none }.readyFor m) = .next u
            ∧ u.outcomeOn m = some b ∧ s.serveNext.blocks = u.blocks ∧ SameLinks s s.serveNext
            ∧ (takenByte b = true → v = none) ∧ (takenByte b = false → ∃ x : Verdict, x.byte = b ∧ v = some x)
            ∧ s.serveNext.underWay = some ⟨m, o, rest, results ++ [(i, v)]⟩)
      ∧ ∀ (s : State) (results : List (StationNo × Option Verdict)), s.underWay = some ⟨m, o, [], results⟩ →
          s.serveNext = ({ s with underWay := none }.answer m o (groupReply results)).sendSets

/-! ### Berth and group orders -/

/-- R2, R4 to R6, R17: SET_PHASE with ORDER on the berth scope makes the four transitions of R4 with the evaluation that follows,
and is answered DONE after the change; WRONG_STATE where a latch is engaged; PHASE for every other wanted phase; without ORDER it is
refused NO_AUTHORITY (R125). Entering a phase
sets it, clears the short flags in MOORED and STARTING, and raises PHASE once; entering the phase that holds does nothing.
ALONGSIDE becomes MOORED when a station holds and every enabled group has its minimum; UNMOORING becomes VACANT when no latch is
engaged. -/
def Obligations.SetPhaseCompletes : Prop :=
  (∀ (s : State) (a : OrderArgs) (w : Byte), ReachesBerth s a.link (rowOrder .setPhase a) → a.params = [w] →
      s.authority a.link 7 = .order →
      let o := rowOrder .setPhase a
      let base := s.taken a.link o
      let answered := fun (u : State) (v : Verdict) => (u.answer a.link o (.plain v)).sendSets
      (s.phase = .vacant → w = 2 →
          exec (.setPhase a) s = .next (answered (base.enterPhase .alongside).evaluateMoored .done))
        ∧ (s.phase = .moored → w = 4 →
            exec (.setPhase a) s = .next (answered (base.enterPhase .unmooring).evaluateVacant .done))
        ∧ ((s.phase = .alongside ∨ s.phase = .emergency) → w = 1 →
            (s.engagedCount = 0 → exec (.setPhase a) s = .next (answered (base.enterPhase .vacant) .done))
              ∧ (s.engagedCount ≠ 0 → exec (.setPhase a) s = .next (answered base .wrongState)))
        ∧ (¬(s.phase = .vacant ∧ w = 2) → ¬(s.phase = .moored ∧ w = 4) →
            ¬((s.phase = .alongside ∨ s.phase = .emergency) ∧ w = 1) →
            exec (.setPhase a) s = .next (answered base .phase)))
    ∧ (∀ (s : State) (a : OrderArgs) (w : Byte), ReachesBerth s a.link (rowOrder .setPhase a) → a.params = [w] →
        s.authority a.link 7 ≠ .order → RefusedWith s (.setPhase a) a.link (rowOrder .setPhase a) .noAuthority)
    ∧ ∀ (s : State) (p : Phase),
        (s.phase = p → s.enterPhase p = s)
          ∧ (s.phase ≠ p → (s.enterPhase p).phase = p
              ∧ (s.enterPhase p).mailboxes = (s.raiseAll [(⟨.phase, .berth, p.code⟩, none)]).mailboxes
              ∧ (s.enterPhase p).shortFlags
                  = (if p = .moored ∨ p = .starting then Vector.replicate 6 false else s.shortFlags))
          ∧ (s.phase = .alongside →
              (s.evaluateMoored.phase = .moored
                ↔ (∃ i, (s.st i).record.state = .held ∨ (s.st i).record.state = .tending)
                  ∧ ∀ g, (s.group g).enabled = true → 0 < (s.group g).minimum → (s.group g).minimum ≤ s.holdingCount g))
          ∧ (s.phase = .unmooring → (s.evaluateVacant.phase = .vacant ↔ ∀ i, (s.st i).engaged = false))

/-- R126: TAKE_LOCAL and GIVE_LOCAL on an enabled group from the quay link set and clear its local-control flag; from another link
they are refused NO_AUTHORITY. -/
def Obligations.LocalControlOrders : Prop :=
  ∀ (s : State) (a : OrderArgs) (g : GroupNo), s.phase ≠ .starting → a.params = [] → targetOf a.target = .group g →
    (s.group g).enabled = true →
    let take := rowOrder .takeLocal a
    let give := rowOrder .giveLocal a
    (s.takesNow a.link take = true → a.link = .quay →
        exec (.takeLocal a) s
          = .next (({ s.taken .quay take with localControl := setFlag s.localControl g true }.answer .quay take
              (.plain .done)).sendSets))
      ∧ (s.takesNow a.link give = true → a.link = .quay →
          exec (.giveLocal a) s
            = .next (({ s.taken .quay give with localControl := setFlag s.localControl g false }.answer .quay give
                (.plain .done)).sendSets))
      ∧ (s.takesNow a.link take = true → a.link ≠ .quay →
          exec (.takeLocal a) s = .next (((s.taken a.link take).answer a.link take (.plain .noAuthority)).sendSets))
      ∧ (s.takesNow a.link give = true → a.link ≠ .quay →
          exec (.giveLocal a) s = .next (((s.taken a.link give).answer a.link give (.plain .noAuthority)).sendSets))

/-- R3, R8, R23, R58, R107, R150, R169, R170: BERTH_RESET without a reload ends every operation, empties the Arbiter, clears local
control and the surge timer, enters STARTING and begins the reconstruction of every station but those FAULTED or OUT_OF_SERVICE
that were not settling; the parameters, lengths, fault fields, latch commands and history rings stay. With no station to
reconstruct the reset ends at once in the computed phase. That the tending items are cleared and the ports made safe before the
reconstruction is the model's reading (log 17). The model's choices are that the payout lengths are kept, which the NOTE of R33
denies for a SLACK station (log 33), the handshake step of a station in SETTING that is stopped, which R59's table leaves (log 34),
the ascending order of the stations in the OP_FAILED alerts (log 7), and PHASE before EQR_ABANDONED (log 6). From another link the
order is refused NO_AUTHORITY, and during a save PROFILE_BUSY (R122, R125). -/
def Obligations.BerthResetCompletes : Prop :=
  (∀ (s : State) (a : OrderArgs), ReachesBerth s a.link (rowOrder .berthReset a) → a.params = [] →
      (a.link ≠ .shore → RefusedWith s (.berthReset a) a.link (rowOrder .berthReset a) .noAuthority)
        ∧ (a.link = .shore → s.saving.isSome = true →
            RefusedWith s (.berthReset a) a.link (rowOrder .berthReset a) .profileBusy))
    ∧ ∀ (s : State) (a : OrderArgs), ReachesBerth s .shore (rowOrder .berthReset a) → a.link = .shore → a.params = [] →
        s.saving = none → s.berth.reloadOnReset ≠ 1 →
        let named := allStations.flatMap (fun i => s.failedAlert i .reset)
          ++ [((⟨.phase, .berth, 0⟩ : Alert), (none : Option Master))]
          ++ if s.eqr = .arming then [((⟨.eqrAbandoned, .berth, 0⟩ : Alert), (none : Option Master))] else []
        ∃ t, exec (.berthReset a) s = .next t ∧ ResetBegun s t ∧ t.reload = s.reload
          ∧ Answered s t .shore (rowOrder .berthReset a) (.plain .accepted)
          ∧ (∀ i, ((t.st i).settling = true
                ↔ (s.st i).settling = true ∨ ((s.st i).record.state ≠ .faulted ∧ (s.st i).record.state ≠ .outOfService))
              ∧ ((t.st i).settling = true → (t.st i).record.recon = some .berthReset ∧ (t.st i).tension.seedPending = true
                  ∧ (t.st i).port.reportLossTimer = some s.berth.reportLossInterval)
              ∧ ((t.st i).settling = false → (t.st i).tension.seedPending = (s.st i).tension.seedPending
                  ∧ (t.st i).port.reportLossTimer = (s.st i).port.reportLossTimer))
          ∧ ((∃ i, (t.st i).settling = true) → t.phase = .starting ∧ t.eqr = .idle ∧ t.eqrTimer = none ∧ Raised s t named [])
          ∧ (s.reload = none → (∀ i, (t.st i).settling = false) →
              ComputedPhase t
                ∧ t.eqr = (if s.releaseLine then .arming else .idle)
                ∧ t.eqrTimer = (if s.releaseLine then some s.berth.eqrHold else none)
                ∧ Raised s t (named ++ [(⟨.phase, .berth, t.phase.code⟩, none)] ++ armingAlert s) [])

/-- R8, R58, R157, R165, R169, R170: with "reload profile on berth reset" the order ends every operation, makes every port safe,
empties the Arbiter and enters STARTING as without it, and waits for its answer while the profile is reloaded; at the end of the
reload the stations' reconstruction begins, the profile's entries stand over the tables as they were, PROFILE is raised by the
table as the reload left it, with the result as its detail, and the answer is sent, unless the shore link was reset meanwhile; with
no station to reconstruct the reset ends at once. The reload takes effect at its end (log 18); that the link reset cancels the
answer and not the reload is the model's reading (log 21), as are the tending items and the ports (log 17); the payout lengths that
are kept (log 33), the handshake step that is stopped (log 34), the order of the stations in the OP_FAILED alerts (log 7) and PHASE
before EQR_ABANDONED (log 6) are its choices. -/
def Obligations.ReloadCompletes : Prop :=
  ∀ (s : State),
    (∀ a : OrderArgs, ReachesBerth s .shore (rowOrder .berthReset a) → a.link = .shore → a.params = [] → s.saving = none →
        s.berth.reloadOnReset = 1 →
        ∃ t, exec (.berthReset a) s = .next t ∧ t.phase = .starting ∧ ResetBegun s t
          ∧ t.reload = some { order := rowOrder .berthReset a, answerDue := true }
          ∧ (t.link .shore).sending = none ∧ (t.link .shore).waiting = none ∧ t.nextLink = .vessel
          ∧ (∀ m, m ≠ .shore → t.link m = s.link m)
          ∧ t.eqr = .idle ∧ t.eqrTimer = none
          ∧ Raised s t (allStations.flatMap (fun i => s.failedAlert i .reset) ++ [(⟨.phase, .berth, 0⟩, none)]
              ++ if s.eqr = .arming then [(⟨.eqrAbandoned, .berth, 0⟩, none)] else []) []
          ∧ ∀ i, (t.st i).record.recon = (s.st i).record.recon
              ∧ (t.st i).tension.seedPending = (s.st i).tension.seedPending
              ∧ (t.st i).port.reportLossTimer = (s.st i).port.reportLossTimer)
      ∧ (∀ r responds, s.reload = some r →
          let loaded := { s with reload := none }.loadProfile responds
          let profile := fun t : State =>
            [((⟨.profile, .berth, match t.profile.result with | .loaded => 1 | .absent => 2 | .invalid => 3⟩ : Alert),
              (none : Option Master))]
          ∃ t, exec (.profileReloadEnd responds) s = .next t ∧ t.reload = none
            ∧ t.params = loaded.params ∧ t.profile = loaded.profile
            ∧ (responds = false → t.params = s.params ∧ t.profile = ⟨.absent, 0, 0⟩)
            ∧ (t.link .shore).sending
                = (if r.answerDue then some (answerFrame r.order.code r.order.tag (.plain .accepted))
                   else (s.link .shore).sending)
            ∧ t.memory = s.memory ∧ t.pending = s.pending
            ∧ (s.phase = .starting → StartingFollows loaded t (profile t))
            ∧ (s.phase ≠ .starting → t.phase = s.phase ∧ Raised loaded t (profile t) [.preempted])
            ∧ ∀ i, ((t.st i).settling = true
                  ↔ (s.st i).settling = true ∨ ((s.st i).record.state ≠ .faulted ∧ (s.st i).record.state ≠ .outOfService))
                ∧ ((t.st i).settling = true →
                    (t.st i).record
                        = { (s.st i).record with recon := some .berthReset, seatTimer := none, latchOpenTimer := none }
                      ∧ (t.st i).tension = { (s.st i).tension with seedPending := true }
                      ∧ (s.stationsSound = true → (t.st i).port.AtRest
                          ∧ BrakeMadeSafe t.berth.brakeTimeout (s.st i).port (t.st i).port)
                      ∧ (t.st i).port.reportLossTimer = some t.berth.reportLossInterval)
                ∧ ((t.st i).settling = false →
                    (t.st i).record = (s.st i).record ∧ (t.st i).tension = (s.st i).tension
                      ∧ (t.st i).port.reportLossTimer = (s.st i).port.reportLossTimer)
                ∧ (t.st i).port.readings = (s.st i).port.readings ∧ (t.st i).port.encoder = (s.st i).port.encoder
                ∧ (t.st i).port.reportSinceFault = (s.st i).port.reportSinceFault)

/-! ### Parameters and the profile -/

/-- R11, R109, R112, R114, R122, R125, R131 to R133, R159: SET_PARAM from the shore link, outside a save, and for the group table
in VACANT alone: a value the keeping block takes is stored and echoed as stored with DONE; one it refuses is answered RANGE. A
lowered grant limit stops the surplus of the active holders, class 2 before class 1 before class 0 and within a class the latest
grant first, marked for re-queuing and without an alert; then, as after a raised one, the Arbiter makes its tests. A written
attention threshold has its master's attention output evaluated again (R144); no other write touches the Arbiter's lists or the
alert queues. From another link it is refused NO_AUTHORITY, during a save PROFILE_BUSY, and a write of the group table outside
VACANT PHASE, in this order. GET_PARAM, in any phase and from any master, answers DONE with the item, or RANGE for an item there is
not. -/
def Obligations.ParameterOrdersComplete : Prop :=
  ∀ (s : State) (a : OrderArgs) (table index v0 v1 v2 v3 : Byte),
    (ReachesBerth s .shore (rowOrder .setParam a) → a.link = .shore → a.params = [table, index, v0, v1, v2, v3] →
        s.saving = none → (table = 2 → s.phase = .vacant) →
        let v := v0.toNat + 256 * (v1.toNat + 256 * (v2.toNat + 256 * v3.toNat))
        (s.params.write table.toNat index.toNat v = none →
            exec (.setParam a) s
              = .next (((s.taken .shore (rowOrder .setParam a)).answer .shore (rowOrder .setParam a) (.plain .range)).sendSets))
          ∧ (∀ p, s.params.write table.toNat index.toNat v = some p →
              ∃ t w, exec (.setParam a) s = .next t ∧ t.params = p ∧ p.read table.toNat index.toNat = some w
                ∧ Answered s t .shore (rowOrder .setParam a) { verdict := .done, data := table :: index :: le32 w }
                ∧ (∀ i, (t.st i).record = (s.st i).record ∧ (t.st i).tension = (s.st i).tension
                    ∧ SameSensed (s.st i).port (t.st i).port)
                ∧ t.phase = s.phase ∧ t.memory = s.memory ∧ t.pending = s.pending ∧ SameWatch s t
                ∧ (¬(table = 2 ∧ index.toNat % 4 = 0 ∧ 16 ≤ v) → t.localControl = s.localControl)
                ∧ (∀ g : GroupNo, table = 2 → index.toNat = 4 * g.val → 16 ≤ v → t.localControl = setFlag s.localControl g false)
                ∧ (¬(table = 5 ∧ index = 0) → t.holders = s.holders ∧ t.queue = s.queue ∧ t.holdoffs = s.holdoffs
                    ∧ t.nextGrant = s.nextGrant
                    ∧ ∀ i, (t.st i).port.handshake = (s.st i).port.handshake ∧ (t.st i).port.drive = (s.st i).port.drive
                        ∧ (t.st i).port.brake = (s.st i).port.brake ∧ (t.st i).port.brakeTimer = (s.st i).port.brakeTimer
                        ∧ (t.st i).port.stallTimer = (s.st i).port.stallTimer)
                ∧ (¬(table = 5 ∧ (index = 0 ∨ index = 10 ∨ index = 11 ∨ index = 12)) → t.mailboxes = s.mailboxes)
                ∧ (∀ m, table = 5 → index.toNat = 10 + masterNumber m →
                    (t.mailboxes.get m).entries = (s.mailboxes.get m).entries ∧ (t.mailboxes.get m).lost = (s.mailboxes.get m).lost
                      ∧ (t.mailboxes.get m).nextRank = (s.mailboxes.get m).nextRank
                      ∧ ((t.mailboxes.get m).attention = true ↔ ∃ e ∈ (s.mailboxes.get m).entries, w ≤ e.level)
                      ∧ ∀ n, n ≠ m → t.mailboxes.get n = s.mailboxes.get n)
                ∧ (table = 5 → index = 0 → (t.holders.filter Holder.active).length ≤ p.berth.grantLimit)
                ∧ (table = 5 → index = 0 → s.drivesSound = true →
                    ∃ stopped, SurplusStopped s.holders p.berth.grantLimit stopped
                      ∧ ArbiterTested { s with
                          params := p
                          holders := s.holders.map fun h =>
                            if h ∈ stopped then { h with condition := .returning .requeue } else h } t []
                      ∧ ∀ h ∈ stopped, (t.st h.station).port.handshake = .setting ∧ (t.st h.station).port.drive = .hold
                          ∧ (t.st h.station).port.brake = .set)))
      ∧ (let refused := fun (v : Verdict) =>
          exec (.setParam a) s
            = .next (((s.taken a.link (rowOrder .setParam a)).answer a.link (rowOrder .setParam a) (.plain v)).sendSets)
         ReachesBerth s a.link (rowOrder .setParam a) → a.params = [table, index, v0, v1, v2, v3] →
          (a.link ≠ .shore → refused .noAuthority)
            ∧ (a.link = .shore → s.saving.isSome = true → refused .profileBusy)
            ∧ (a.link = .shore → s.saving = none → table = 2 → s.phase ≠ .vacant → refused .phase))
      ∧ (s.takesNow a.link (rowOrder .getParam a) = true → targetOf a.target = .berth → a.params = [table, index] →
          (∀ w, s.params.read table.toNat index.toNat = some w →
              exec (.getParam a) s
                = .next (((s.taken a.link (rowOrder .getParam a)).answer a.link (rowOrder .getParam a)
                    { verdict := .done, data := table :: index :: le32 w }).sendSets))
            ∧ (s.params.read table.toNat index.toNat = none →
                exec (.getParam a) s
                  = .next (((s.taken a.link (rowOrder .getParam a)).answer a.link (rowOrder .getParam a)
                      (.plain .range)).sendSets)))

/-- R12, R13, R77, R91, R132 to R134: a write that is taken leaves every other item as it was, but for the last and minimum that a
write of a group's first or last moves; and in a sound configuration writing an item the value it holds changes nothing. Which
value a write stores in each item, or whether it is refused RANGE, is said item by item: the clamping of R77, R91 and R134, the band
order, the group record with its overlap, the levels above 3 or 2, a threshold of 0 stored as 1. An item that R132 does not have is
neither written nor read. -/
def Obligations.WriteChangesOneItem : Prop :=
  ∀ (p : Params) (table index v : Nat),
    (∀ q, p.write table index v = some q → (q.read table index).isSome = true
        ∧ ∀ table' index', (table', index') ≠ (table, index) →
            ¬(table = 2 ∧ table' = 2 ∧ index % 4 < 2 ∧ index' / 4 = index / 4
                ∧ (index' % 4 = 2 ∨ (index % 4 = 0 ∧ index' % 4 = 1))) →
            q.read table' index' = p.read table' index')
      ∧ (p.sound = true → p.read table index = some v → p.write table index v = some p)
      ∧ WritesStore p v
      ∧ (¬KnownItem table index → p.write table index v = none ∧ p.read table index = none)
      ∧ (KnownItem table index → (p.read table index).isSome = true)

/-- R13: a write of first or last that would make an enabled group contain a station of another enabled group is refused, by the
range the group would have after the write; a write of 16 or more to first, which disables, never is; and the rule's example. -/
def Obligations.OverlapIsRefused : Prop :=
  (∀ (groups : Vector Group 6) (n : Fin 6) (v : Nat),
      (∀ j : Fin 6, groups[j].enabled = true → groups[j].first ≤ groups[j].last) →
      (v < 16 →
        (writeGroup groups n 0 v = none
          ↔ ∃ j : Fin 6, j ≠ n ∧ ∃ i, groups[j].contains i = true
              ∧ Group.contains { groups[n] with first := v, last := max groups[n].last v } i = true))
        ∧ (groups[n].enabled = true → groups[n].first ≤ min 15 v →
            (writeGroup groups n 1 v = none
              ↔ ∃ j : Fin 6, j ≠ n ∧ ∃ i, groups[j].contains i = true
                  ∧ Group.contains { groups[n] with last := min 15 v } i = true))
        ∧ (16 ≤ v → writeGroup groups n 0 v = some (groups.set n.val { groups[n] with first := 255 } n.isLt)))
    ∧ (∀ (s : State) (a : OrderArgs) (index v0 v1 v2 v3 : Byte), ReachesBerth s .shore (rowOrder .setParam a) →
        a.link = .shore → a.params = [2, index, v0, v1, v2, v3] → s.saving = none → s.phase = .vacant →
        s.params.write 2 index.toNat (v0.toNat + 256 * (v1.toNat + 256 * (v2.toNat + 256 * v3.toNat))) = none →
        ∃ t, exec (.setParam a) s = .next t ∧ t.params = s.params
          ∧ Answered s t .shore (rowOrder .setParam a) (.plain .range))
    ∧ (let plan : Vector Group 6 :=
        (((Vector.replicate 6 Group.default).set 0 ⟨0, 3, 2, 0⟩).set 1 ⟨4, 7, 2, 0⟩)
       writeGroup plan 0 1 5 = none
        ∧ writeGroup plan 0 0 9 = some (plan.set 0 ⟨9, 9, 1, 0⟩)
        ∧ writeGroup (plan.set 0 ⟨9, 9, 1, 0⟩) 0 1 11 = some (plan.set 0 ⟨9, 11, 1, 0⟩))

/-- R165 to R167, section 11.2: PROFILE_SAVE from the shore link in VACANT is accepted and fixes the entries to write; the end of
a save that reads back leaves a memory whose header is good and whose entries are those, with PROFILE 4; a byte that differs
leaves a memory that reads ABSENT, with PROFILE 5. From another link the order is refused NO_AUTHORITY, during a save PROFILE_BUSY,
and outside VACANT PHASE, in this order (R122, R125). The writes are made at the save's end, and the last write of byte 0 succeeds
(log 19). -/
def Obligations.SaveWritesProfile : Prop :=
  ∀ (s : State),
    (∀ a : OrderArgs, ReachesBerth s .shore (rowOrder .profileSave a) → a.link = .shore → a.params = [] → s.saving = none →
        s.phase = .vacant →
        exec (.profileSave a) s
          = .next (({ s.taken .shore (rowOrder .profileSave a) with saving := some (saveEntries s.params) }.answer .shore
              (rowOrder .profileSave a) (.plain .accepted)).sendSets))
      ∧ (∀ a : OrderArgs, ReachesBerth s a.link (rowOrder .profileSave a) → a.params = [] →
          let refused := RefusedWith s (.profileSave a) a.link (rowOrder .profileSave a)
          (a.link ≠ .shore → refused .noAuthority)
            ∧ (a.link = .shore → s.saving.isSome = true → refused .profileBusy)
            ∧ (a.link = .shore → s.saving = none → s.phase ≠ .vacant → refused .phase))
      ∧ (∀ entries : List ProfileEntry, s.saving = some entries → Memory.wf s.memory = true → entries.length ≤ 340 →
          (∀ e ∈ entries, e.table < 256 ∧ e.index < 256 ∧ e.value < 4294967296) →
          (∃ t, exec (.profileSaveEnd []) s = .next t ∧ t.saving = none ∧ imageResult true t.memory = .loaded
              ∧ imageEntries true t.memory = entries
              ∧ (∀ n, 4 + 6 * entries.length ≤ n → cellAt t.memory n = cellAt s.memory n)
              ∧ t = { ({ s with saving := none }.raise .profile .berth 4) with memory := t.memory })
            ∧ (∀ faulty : List Host.Cell,
                readsBack (savedMemory s.memory entries faulty) entries = false →
                ∃ t, exec (.profileSaveEnd faulty) s = .next t ∧ t.saving = none ∧ Memory.wf t.memory = true
                  ∧ cellAt t.memory 0 = 0xFF ∧ imageResult true t.memory = .absent
                  ∧ t = { ({ s with saving := none }.raise .profile .berth 5) with memory := t.memory }))

/-- R168: a power-on during a save. Before the save's write of the signature the next load finds ABSENT and the defaults stand;
after it, a complete image: LOADED; after the write that follows a mismatch, ABSENT. No PROFILE alert of a save's end is raised,
and the old image is lost from the first write on. How many of the save's byte writes were made is an operand, and that it may be
none, the old image then standing, is the model's choice (log 19). -/
def Obligations.PowerOnDuringSave : Prop :=
  ∀ (s : State) (entries : List ProfileEntry) (n : Nat) (releaseLine quayLine : Bool), s.saving = some entries →
    Memory.wf s.memory = true →
    ∃ t, exec (.powerOn releaseLine quayLine true n) s = .next t ∧ t.saving = none
      ∧ (n = 0 → t.memory = s.memory)
      ∧ (0 < n → n ≤ (verifiedWrites entries).length → t.profile = ⟨.absent, 0, 0⟩ ∧ t.params = .default)
      ∧ (n = (verifiedWrites entries).length + 1 → t.profile.result = .loaded)
      ∧ ((verifiedWrites entries).length + 1 < n → t.profile = ⟨.absent, 0, 0⟩ ∧ t.params = .default)
      ∧ (∀ m, ∀ e ∈ (t.mailboxes.get m).entries, e.kind = .profile → e.detail = t.profile.result.code)

/-- R164, R165: the header is judged; with ABSENT and INVALID no item changes and the counts are 0; with LOADED the entries are the
byte count, at most 2044, over 6, each read from its six bytes, and the tables are what they were with the entries written in their
order, those that the keeping block refuses being skipped; the applied and skipped counts count them. -/
def Obligations.HeaderIsJudged : Prop :=
  ∀ (s : State) (responds : Bool),
    let byte := imageByte responds s.memory
    (responds = false → ∀ n, byte n = 0xFF)
      ∧ (byte 0 = 0xFF → s.loadProfile responds = { s with profile := ⟨.absent, 0, 0⟩ })
      ∧ (byte 0 ≠ 0xFF → (byte 0 ≠ 0xC3 ∨ byte 1 ≠ 1) → s.loadProfile responds = { s with profile := ⟨.invalid, 0, 0⟩ })
      ∧ (byte 0 = 0xC3 → byte 1 = 1 →
          (s.loadProfile responds).profile.result = .loaded
            ∧ (s.loadProfile responds).profile.applied + (s.loadProfile responds).profile.skipped
                = min 2044 ((byte 2).toNat + 256 * (byte 3).toNat) / 6
            ∧ (imageEntries responds s.memory).length = min 2044 ((byte 2).toNat + 256 * (byte 3).toNat) / 6
            ∧ ∀ k e, (imageEntries responds s.memory)[k]? = some e →
                e.table = (byte (4 + 6 * k)).toNat ∧ e.index = (byte (5 + 6 * k)).toNat
                  ∧ e.value = (byte (6 + 6 * k)).toNat + 256 * ((byte (7 + 6 * k)).toNat
                      + 256 * ((byte (8 + 6 * k)).toNat + 256 * (byte (9 + 6 * k)).toNat)))
      ∧ LoadFollows s.params (s.loadProfile responds).params (s.loadProfile responds).profile (imageResult responds s.memory)
          (imageEntries responds s.memory)

/-- R165, R167: the entries that a save makes of a sound configuration, applied in their order over the defaults, give that
configuration back, and none of them is refused on the way. -/
def Obligations.SavedConfigurationReloads : Prop :=
  ∀ p : Params, p.sound = true →
    (saveEntries p).foldl (fun q e => q.bind fun x => x.write e.table e.index e.value) (some Params.default) = some p

/-- R88: the history ring is emptied at power-on and on acceptance of SET_SERVICE(in), and its first value after that is the seeding
sample's; berth reset, CLEAR_FAULT and link reset keep it. -/
def Obligations.HistoryRingResets : Prop :=
  ∀ (s t : State) (i : StationNo),
    (∀ a b c n, exec (.powerOn a b c n) s = .next t → (t.st i).tension.history = [])
      ∧ (∀ a : OrderArgs, exec (.setServiceIn a) s = .next t → (s.st i).settling = false → (t.st i).settling = true →
          (t.st i).tension.history = [])
      ∧ (∀ r : Report, (s.st i).port.block = [] → (s.st i).computed = true → (s.st i).tension.history = [] →
          (s.st i).tension.seedPending = true → exec (.stationReport i (reportBlock i r)) s = .next t →
          (t.st i).tension.history = [limitTension (s.sampleTension i r.readings)])
      ∧ (∀ a : OrderArgs, exec (.berthReset a) s = .next t → (t.st i).tension.history = (s.st i).tension.history)
      ∧ (∀ responds, exec (.profileReloadEnd responds) s = .next t → (t.st i).tension.history = (s.st i).tension.history)
      ∧ (∀ a : OrderArgs, exec (.clearFault a) s = .next t → (t.st i).tension.history = (s.st i).tension.history)
      ∧ (∀ m, (∀ w, s.underWay = some w → w.link ≠ m) → exec (.linkReset m) s = .next t →
          (t.st i).tension.history = (s.st i).tension.history)

/-! ### Queries and alerts -/

/-- R89, R125, R136, R137, R160, R161: GET_STATION and READ_HISTORY of a station the master may observe, and GET_BERTH, are
answered DONE with the station's 30 bytes, the ring oldest first after its count, and the berth's 39 bytes, every byte as R160,
R159 and R161 give it, and change nothing else. A query of a station that the master may not observe is refused NO_AUTHORITY. Bits
that no table names are sent as 0 (log 25). -/
def Obligations.QueriesAnswer : Prop :=
  ∀ (s : State) (a : OrderArgs), a.params = [] →
    let answers := fun (c : Instr) (o : Order) (data : List Byte) =>
      exec c s = .next (((s.taken a.link o).answer a.link o { verdict := .done, data := data }).sendSets)
    (∀ i, s.mayObserve a.link i = false →
        (ReachesStation s a.link (rowOrder .getStation a) i →
            RefusedWith s (.getStation a) a.link (rowOrder .getStation a) .noAuthority)
          ∧ (ReachesStation s a.link (rowOrder .readHistory a) i →
              RefusedWith s (.readHistory a) a.link (rowOrder .readHistory a) .noAuthority))
      ∧ (∀ i, ReachesStation s a.link (rowOrder .getStation a) i → s.mayObserve a.link i = true →
        let x := (s.st i).record
        let p := (s.st i).port
        let f := (s.st i).tension
        answers (.getStation a) (rowOrder .getStation a)
          ([byteOf i.val, byteOf x.state.code,
            byteOf (bitAt 0 (x.state ≠ .outOfService) + bitAt 1 x.recon.isSome + bitAt 2 x.tendingHold
              + bitAt 3 x.payoutLength.isSome + bitAt 4 (x.state = .held ∨ x.state = .tending) + bitAt 5 (s.st i).engaged
              + bitAt 6 (∃ g, s.groupOf i = some g ∧ s.localControl[g] = true) + bitAt 7 p.reportSinceFault),
            byteOf (bitAt 0 x.operation.isSome + bitAt 1 x.owner.isSome + bitAt 2 x.runOutTarget.isSome + bitAt 3 x.tending.isSome
              + bitAt 4 f.scaled.isSome + bitAt 5 f.filtered.isSome + bitAt 6 p.readings.isSome + bitAt 7 p.encoder.isSome),
            byteOf (match x.operation with
              | none => 0 | some .runOut => 1 | some .seat => 2 | some .release => 3 | some .rewind => 4),
            byteOf (match x.owner with | some .vessel => 1 | some .quay => 2 | _ => 0),
            byteOf (x.runOutTarget.getD 0), byteOf (x.runOutTarget.getD 0 / 256),
            byteOf (match x.tending with
              | none => 0 | some d => (if d.direction = .haul then 1 else 0) + (if d.cls = 1 then 2 else 0)),
            byteOf (match x.faultCause with | none => 0 | some c => c.code), byteOf x.faultCount,
            byteOf (x.payoutLength.getD 0), byteOf (x.payoutLength.getD 0 / 256),
            byteOf (match s.driveStatus i with | .idle => 0 | .queued c => 1 + 4 * c | .granted => 2 | .holdoff => 3),
            byteOf (p.drive.code + (if p.brake = .free then 4 else 0) + 8 * x.latchCommand.code), byteOf p.handshake.code,
            byteOf (match p.readings with
              | none => 0
              | some r => r.latch.code + (if r.brake = .free then 4 else 0) + bitAt 3 r.endStop + bitAt 4 r.moduleFault),
            byteOf (match p.readings with | none => 0 | some r => r.loadSample.toNat),
            byteOf (match p.readings with | none => 0 | some r => r.loadSample.toNat / 256),
            byteOf (match p.encoder with | none => 0 | some n => n.toNat),
            byteOf (match p.encoder with | none => 0 | some n => n.toNat / 256),
            byteOf (f.scaled.getD 0), byteOf (f.scaled.getD 0 / 256), byteOf (f.filtered.getD 0), byteOf (f.filtered.getD 0 / 256),
            byteOf (f.saturationRun + bitAt 7 f.saturated), byteOf f.history.length, byteOf f.hi, byteOf f.lo,
            byteOf (match s.groupOf i with | some g => g.val | none => 255)]))
      ∧ (∀ i, ReachesStation s a.link (rowOrder .readHistory a) i → s.mayObserve a.link i = true →
          answers (.readHistory a) (rowOrder .readHistory a)
            (byteOf (s.st i).tension.history.length
              :: (s.st i).tension.history.flatMap fun v => [byteOf v, byteOf (v / 256)]))
      ∧ (s.takesNow a.link (rowOrder .getBerth a) = true → targetOf a.target = .berth →
          let q := s.mailboxes.get a.link
          let n := s.profile.applied + 512 * s.profile.skipped
            + 262144 * (match s.profile.result with | .loaded => 1 | .absent => 2 | .invalid => 3)
          answers (.getBerth a) (rowOrder .getBerth a)
            ([byteOf (s.phase.code + 8 * (match s.eqr with | .idle => 0 | .arming => 1 | .fired => 2) + bitAt 5 s.quayStop
                + bitAt 6 s.releaseLine + bitAt 7 s.surgeTimer.isSome),
              byteOf ((allStations.filter fun i => (s.st i).holding).length
                + bitAt 5 (∃ i, s.groupOf i = none ∧ (s.st i).engaged = true) + bitAt 6 s.saving.isSome),
              byteOf (allStations.filter fun i => (s.st i).engaged).length]
              ++ allGroups.map (fun g => byteOf (s.holdingCount g + bitAt 5 (s.group g).enabled
                + bitAt 6 (∃ i : StationNo, (s.group g).contains i.val = true ∧ (s.st i).engaged = true) + bitAt 7 s.shortFlags[g]))
              ++ [byteOf ((allGroups.map fun g => bitAt g.val s.localControl[g]).sum),
                  byteOf (s.berth.grantLimit + 16 * s.holders.length)]
              ++ (List.range 6).map (fun k => match s.holders[k]? with
                | some h => byteOf (h.station.val + 16 * h.cls + bitAt 6 (h.condition ≠ .active))
                | none => 0xFF)
              ++ (List.range 16).map (fun k => match s.queue[k]? with
                | some e => byteOf (e.station.val + 16 * e.cls + bitAt 6 e.front.isSome)
                | none => 0xFF)
              ++ le16 ((allStations.map fun i => bitAt i.val (∃ h ∈ s.holdoffs, h.station = i)).sum)
              ++ [byteOf (q.entries.length + bitAt 6 q.lost), byteOf n, byteOf (n / 256), byteOf (n / 65536)]))

/-- R144, R145: FETCH_ALERT answers DONE with the head of the master's own queue, its lost flag and the count left, takes the head
out, clears the lost flag and evaluates the attention output; an empty queue answers none and is left as it is. -/
def Obligations.FetchAlertTakesHead : Prop :=
  ∀ (s : State) (a : OrderArgs), ReachesBerth s a.link (rowOrder .fetchAlert a) → a.params = [] →
    let o := rowOrder .fetchAlert a
    let q := s.mailboxes.get a.link
    (∀ e rest, q.entries = e :: rest →
        ∃ t, exec (.fetchAlert a) s = .next t
          ∧ Answered s t a.link o { verdict := .done, data :=
              [byteOf e.kind.code, byteOf e.subject.code, byteOf e.detail, byteOf e.level, byteOf e.mergeCount,
               byteOf (bitAt 0 q.lost), byteOf rest.length] }
          ∧ (t.mailboxes.get a.link).entries = rest ∧ (t.mailboxes.get a.link).lost = false
          ∧ (t.mailboxes.get a.link).nextRank = q.nextRank
          ∧ ((t.mailboxes.get a.link).attention = true ↔ ∃ f ∈ rest, s.berth.attention.get a.link ≤ f.level)
          ∧ (∀ m, m ≠ a.link → t.mailboxes.get m = s.mailboxes.get m)
          ∧ t.phase = s.phase ∧ SameBerth s t ∧ SameWatch s t ∧ t.holders = s.holders ∧ t.queue = s.queue
          ∧ ∀ i, (t.st i).record = (s.st i).record ∧ (t.st i).tension = (s.st i).tension
              ∧ SameSensed (s.st i).port (t.st i).port)
      ∧ (q.entries = [] →
          exec (.fetchAlert a) s
            = .next (((s.taken a.link o).answer a.link o { verdict := .done, data :=
                [0xFF, 0, 0, 0, 0, byteOf (bitAt 0 q.lost), 0] }).sendSets))

/-- R142, R143: an alert offered to a sound queue merges into an equal entry, else joins a queue of fewer than 32, else takes the
place of the last entry if its level is higher, else is lost; the queue order holds after it. -/
def Obligations.OfferedAlertsJoin : Prop :=
  ∀ (q : Mailbox) (a : Alert) (level threshold : Nat), q.sound threshold = true →
    (q.offer a level).entries.Pairwise (fun e f => e.before f = true)
      ∧ (∀ e ∈ q.entries, e.equals a = true →
          (q.offer a level).lost = q.lost ∧ (q.offer a level).nextRank = q.nextRank
            ∧ (q.offer a level).entries.Perm (q.entries.map fun f =>
                if f.equals a then { f with mergeCount := min 255 (f.mergeCount + 1), level := max f.level level } else f))
      ∧ ((∀ e ∈ q.entries, e.equals a = false) →
          (q.entries.length < 32 →
            (q.offer a level).lost = q.lost ∧ (q.offer a level).nextRank = q.nextRank + 1
              ∧ (q.offer a level).entries.Perm (⟨a.kind, a.subject, a.detail, level, 1, q.nextRank⟩ :: q.entries))
          ∧ (∀ e, 32 ≤ q.entries.length → q.entries.getLast? = some e →
              (∀ f ∈ q.entries, f = e ∨ e.level < f.level ∨ (e.level = f.level ∧ f.rank < e.rank))
                ∧ (q.offer a level).lost = true
                ∧ (level ≤ e.level → (q.offer a level).entries = q.entries)
                ∧ (e.level < level →
                    (q.offer a level).entries.Perm (⟨a.kind, a.subject, a.detail, level, 1, q.nextRank⟩ :: q.entries.dropLast))))

/-! ### Invariants that every step keeps -/

/-- The profile memory stays in canonical form. -/
def Obligations.StepKeepsMemoryForm : Prop :=
  ∀ s t : State, Memory.wf s.memory = true → step s = .next t → Memory.wf t.memory = true

/-- R76, R84, R87: every station's scaled and filtered tension stay within 0..4000, the saturation run within 0..16, and the ring
within 16 values of 0..4000. -/
def Obligations.StepKeepsTensionRange : Prop :=
  ∀ s t : State, s.tensionSound = true → step s = .next t → t.tensionSound = true

/-- R141, R144: an alert queue never holds more than 32 entries, nor two equal ones, nor a merge count above 255; it stays in queue
order, and the attention output stays what the queue and the threshold say. -/
def Obligations.StepKeepsAlertQueues : Prop :=
  ∀ s t : State, s.alertsSound = true → step s = .next t → t.alertsSound = true

/-- R27, R70, R107, R108, R111: every port's commands and timers stay those of its handshake phase; a station is a holder exactly
while its port is not in REST, active in FREEING and DRIVING, returning in SETTING; no station stands twice in the Arbiter's
lists; the queue stays in queue order; what stands there has the drive request of its class; a settling, FAULTED or OUT_OF_SERVICE
station stands nowhere. -/
def Obligations.StepKeepsDrives : Prop :=
  ∀ s t : State, s.drivesSound = true → step s = .next t → t.drivesSound = true

/-- R109, R112, R116, R117, R119: after a step from a part that owes none, the Arbiter owes no grant and no preemption: not with the
quay stop released, an entry in the queue and the grants in use below the limit; nor with the quay stop released, the grants in use
at or above the limit, more class-0 entries in the queue than returning holders, and an active holder of class 2. It never gives a
grant while the grants in use are at or above the limit: where a command leaves a holder that was none before it, they are at most
the limit, from every state with the drives sound, which StepKeepsDrives says that every step keeps; nor while the quay stop is
asserted: every holder after such a command was a holder before it, with the same grant time. The Arbiter's test gives each grant to
the head of the queue, and preempts the active class-2 holders with the latest grant times, each with a PREEMPTED that names it and
the station at the queue head; it does so at the release of the quay stop, at the end of a holdoff, whose station joins the tail of
class 2, and at a trip from HELD, whose station joins the tail of class 0. That PREEMPTED stands before QUAY_STOP and before the
trip's OVERLOAD is the model's choice (log 6). -/
def Obligations.GrantsFollowRules : Prop :=
  let grantOwed := fun s : State => s.quayStop = false ∧ s.queue ≠ [] ∧ s.holders.length < s.berth.grantLimit
  let preemptionOwed := fun s : State => s.quayStop = false ∧ s.berth.grantLimit ≤ s.holders.length
    ∧ (s.holders.filter fun h => h.condition ≠ .active).length < (s.queue.filter fun e => e.cls = 0).length
    ∧ ∃ h ∈ s.holders, h.condition = .active ∧ h.cls = 2
  let was := fun (s : State) (h : Holder) => ∃ k ∈ s.holders, k.station = h.station ∧ k.grantTime = h.grantTime
  (∀ s t : State, ¬grantOwed s → ¬preemptionOwed s → step s = .next t → ¬grantOwed t ∧ ¬preemptionOwed t)
    ∧ (∀ s t : State, s.drivesSound = true → step s = .next t → (∃ h ∈ t.holders, ¬was s h) →
        t.holders.length ≤ t.berth.grantLimit)
    ∧ (∀ (s t : State) (c : Instr), s.quayStop = true → c ≠ .quayStopReleased → exec c s = .next t → ∀ h ∈ t.holders, was s h)
    ∧ (∀ s : State, s.arbiterDistinct = true → ArbiterTested s s.arbiterTest [])
    ∧ (∀ s : State, s.arbiterDistinct = true → s.quayStop = true →
        ∃ t, exec .quayStopReleased s = .next t
          ∧ ArbiterTested { s with quayStop := false } t [(⟨.quayStop, .berth, 0⟩, none)])
    ∧ (∀ (s : State) (i : StationNo), s.drivesSound = true → s.driveStatus i = .holdoff →
        ∃ t, exec (.holdoffExpiry i) s = .next t
          ∧ ArbiterTested { s with queue := s.queue ++ [⟨i, 2, none⟩] } t []
          ∧ t.holdoffs = s.holdoffs.filter fun h => h.station ≠ i)
    ∧ ∀ (s : State) (i : StationNo) (r : Report), s.drivesSound = true → PlainReport s i r → s.surges i r = false →
        r.readings.latch = .closed → (s.st i).record.state = .held → (s.st i).record.tendingHold = false → s.driveStatus i = .idle →
        s.phase ≠ .starting → (s.band i).trip ≤ s.reportTension i r.readings →
        roomToPay (s.reportLength i r) (s.band i).maxPayout = true →
        ∃ t, exec (.stationReport i (reportBlock i r)) s = .next t
          ∧ ArbiterTested
              { s with queue := (s.queue.filter fun e => e.cls = 0) ++ ⟨i, 0, none⟩ :: s.queue.filter fun e => e.cls ≠ 0 } t
              [(⟨.overload, .station i, 1⟩, none)]

/-- R10, R12, R13, R77, R90, R91, R134, R139: every item stays in its range, every band in the order of R91, every minimum within
its group, and no two enabled groups overlap. -/
def Obligations.StepKeepsConfiguration : Prop :=
  ∀ s t : State, s.params.sound = true → step s = .next t → t.params.sound = true

/-- R22, R29, R33, R36, R40, R53, R85, R93: every station's operation, tending, timers and run-out target stay those of its state, a
STOWED station's length stays known, and a station whose state reads the filtered tension has one. -/
def Obligations.StepKeepsStations : Prop :=
  ∀ s t : State, s.stationsSound = true → step s = .next t → t.stationsSound = true

/-- R48, R49: a station's fault cause and fault count change on entry to FAULTED, the count by one up to 255, and at power-on, and
at no other step, a turn of the Order Unit included. A station enters FAULTED from settling or from a state other than FAULTED and
OUT_OF_SERVICE: a finding on a FAULTED station that is not settling leaves its fault fields. What a power-on makes of them
is PowerOnStartsAnew's. -/
def Obligations.FaultFieldsAreSticky : Prop :=
  ∀ (s t : State) (i : StationNo), (∀ r q m n rest, s.pending ≠ .powerOn r q m n :: rest) → step s = .next t →
    ((t.st i).record.faultCause = (s.st i).record.faultCause ∧ (t.st i).record.faultCount = (s.st i).record.faultCount)
      ∨ ((s.st i).actsOnFinding = true ∧ (t.st i).settling = false ∧ (t.st i).record.state = .faulted
          ∧ (t.st i).record.faultCause.isSome = true
          ∧ (t.st i).record.faultCount = min 255 ((s.st i).record.faultCount + 1))
end

