-- ==== Sys2Proof/Laws/State.lean ====
section
/-! SUPPORT. The small lemmas of the state's updates: what one station's update leaves of the rest of the state, and what it makes
of the stations; the same for a link's update. Each is true by unfolding one update, so that no later proof unfolds one. -/

namespace Sys2Proof.Machine

/-! ### One station updated -/

/-- Station `j` after station `i` is changed. -/
theorem State.st_modSt (s : State) (i j : StationNo) (f : Station → Station) :
    (s.modSt i f).st j = if j = i then f (s.st i) else s.st j := by
  unfold State.modSt State.st
  simp only [Fin.getElem_fin, Vector.getElem_set]
  by_cases h : j = i
  · subst h; simp
  · simp [h, Ne.symm (fun e => h (Fin.ext e) : j.val ≠ i.val)]

@[simp] theorem State.st_modSt_same (s : State) (i : StationNo) (f : Station → Station) : (s.modSt i f).st i = f (s.st i) := by
  simp [State.st_modSt]

@[simp] theorem State.st_modSt_ne (s : State) {i j : StationNo} (f : Station → Station) (h : j ≠ i) :
    (s.modSt i f).st j = s.st j := by simp [State.st_modSt, h]

/-- Station `j` after the record of station `i` is changed. -/
theorem State.st_modRecord (s : State) (i j : StationNo) (f : Record → Record) :
    (s.modRecord i f).st j = if j = i then { s.st i with record := f (s.st i).record } else s.st j :=
  State.st_modSt s i j _

@[simp] theorem State.st_modRecord_same (s : State) (i : StationNo) (f : Record → Record) :
    (s.modRecord i f).st i = { s.st i with record := f (s.st i).record } := State.st_modSt_same s i _

@[simp] theorem State.st_modRecord_ne (s : State) {i j : StationNo} (f : Record → Record) (h : j ≠ i) :
    (s.modRecord i f).st j = s.st j := State.st_modSt_ne s _ h

/-- Station `j` after the port of station `i` is changed. -/
theorem State.st_modPort (s : State) (i j : StationNo) (f : Port → Port) :
    (s.modPort i f).st j = if j = i then { s.st i with port := f (s.st i).port } else s.st j :=
  State.st_modSt s i j _

@[simp] theorem State.st_modPort_same (s : State) (i : StationNo) (f : Port → Port) :
    (s.modPort i f).st i = { s.st i with port := f (s.st i).port } := State.st_modSt_same s i _

@[simp] theorem State.st_modPort_ne (s : State) {i j : StationNo} (f : Port → Port) (h : j ≠ i) :
    (s.modPort i f).st j = s.st j := State.st_modSt_ne s _ h

/-- Station `j` after the tension of station `i` is changed. -/
theorem State.st_modTension (s : State) (i j : StationNo) (f : Tension → Tension) :
    (s.modTension i f).st j = if j = i then { s.st i with tension := f (s.st i).tension } else s.st j :=
  State.st_modSt s i j _

@[simp] theorem State.st_modTension_same (s : State) (i : StationNo) (f : Tension → Tension) :
    (s.modTension i f).st i = { s.st i with tension := f (s.st i).tension } := State.st_modSt_same s i _

@[simp] theorem State.st_modTension_ne (s : State) {i j : StationNo} (f : Tension → Tension) (h : j ≠ i) :
    (s.modTension i f).st j = s.st j := State.st_modSt_ne s _ h

/-- Station `j` after the latch of station `i` is commanded. -/
theorem State.st_commandLatch (s : State) (i j : StationNo) (c : LatchCommand) :
    (s.commandLatch i c).st j =
      if j = i then
        { s.st i with
          record := { (s.st i).record with latchCommand := c }
          port := { (s.st i).port with sendDue := (s.st i).port.sendDue || decide ((s.st i).record.latchCommand ≠ c) } }
      else s.st j := State.st_modSt s i j _

/-- R63: station `j` after the command sets due are sent. -/
@[simp] theorem State.st_sendSets (s : State) (j : StationNo) : s.sendSets.st j = (s.st j).send j := by
  simp [State.sendSets, State.st]

/-! What `modSt` leaves as it is. -/

@[simp] theorem State.modSt_phase (s : State) (i : StationNo) (f : Station → Station) : (s.modSt i f).phase = s.phase := rfl
@[simp] theorem State.modSt_shortFlags (s : State) (i : StationNo) (f : Station → Station) : (s.modSt i f).shortFlags = s.shortFlags := rfl
@[simp] theorem State.modSt_params (s : State) (i : StationNo) (f : Station → Station) : (s.modSt i f).params = s.params := rfl
@[simp] theorem State.modSt_surgeTimer (s : State) (i : StationNo) (f : Station → Station) : (s.modSt i f).surgeTimer = s.surgeTimer := rfl
@[simp] theorem State.modSt_holders (s : State) (i : StationNo) (f : Station → Station) : (s.modSt i f).holders = s.holders := rfl
@[simp] theorem State.modSt_queue (s : State) (i : StationNo) (f : Station → Station) : (s.modSt i f).queue = s.queue := rfl
@[simp] theorem State.modSt_holdoffs (s : State) (i : StationNo) (f : Station → Station) : (s.modSt i f).holdoffs = s.holdoffs := rfl
@[simp] theorem State.modSt_nextGrant (s : State) (i : StationNo) (f : Station → Station) : (s.modSt i f).nextGrant = s.nextGrant := rfl
@[simp] theorem State.modSt_eqr (s : State) (i : StationNo) (f : Station → Station) : (s.modSt i f).eqr = s.eqr := rfl
@[simp] theorem State.modSt_eqrTimer (s : State) (i : StationNo) (f : Station → Station) : (s.modSt i f).eqrTimer = s.eqrTimer := rfl
@[simp] theorem State.modSt_releaseLine (s : State) (i : StationNo) (f : Station → Station) : (s.modSt i f).releaseLine = s.releaseLine := rfl
@[simp] theorem State.modSt_quayStop (s : State) (i : StationNo) (f : Station → Station) : (s.modSt i f).quayStop = s.quayStop := rfl
@[simp] theorem State.modSt_localControl (s : State) (i : StationNo) (f : Station → Station) : (s.modSt i f).localControl = s.localControl := rfl
@[simp] theorem State.modSt_nextLink (s : State) (i : StationNo) (f : Station → Station) : (s.modSt i f).nextLink = s.nextLink := rfl
@[simp] theorem State.modSt_links (s : State) (i : StationNo) (f : Station → Station) : (s.modSt i f).links = s.links := rfl
@[simp] theorem State.modSt_mailboxes (s : State) (i : StationNo) (f : Station → Station) : (s.modSt i f).mailboxes = s.mailboxes := rfl
@[simp] theorem State.modSt_profile (s : State) (i : StationNo) (f : Station → Station) : (s.modSt i f).profile = s.profile := rfl
@[simp] theorem State.modSt_saving (s : State) (i : StationNo) (f : Station → Station) : (s.modSt i f).saving = s.saving := rfl
@[simp] theorem State.modSt_reload (s : State) (i : StationNo) (f : Station → Station) : (s.modSt i f).reload = s.reload := rfl
@[simp] theorem State.modSt_underWay (s : State) (i : StationNo) (f : Station → Station) : (s.modSt i f).underWay = s.underWay := rfl
@[simp] theorem State.modSt_memory (s : State) (i : StationNo) (f : Station → Station) : (s.modSt i f).memory = s.memory := rfl
@[simp] theorem State.modSt_pending (s : State) (i : StationNo) (f : Station → Station) : (s.modSt i f).pending = s.pending := rfl

/-! What `modRecord` leaves as it is. -/

@[simp] theorem State.modRecord_phase (s : State) (i : StationNo) (f : Record → Record) : (s.modRecord i f).phase = s.phase := rfl
@[simp] theorem State.modRecord_shortFlags (s : State) (i : StationNo) (f : Record → Record) : (s.modRecord i f).shortFlags = s.shortFlags := rfl
@[simp] theorem State.modRecord_params (s : State) (i : StationNo) (f : Record → Record) : (s.modRecord i f).params = s.params := rfl
@[simp] theorem State.modRecord_surgeTimer (s : State) (i : StationNo) (f : Record → Record) : (s.modRecord i f).surgeTimer = s.surgeTimer := rfl
@[simp] theorem State.modRecord_holders (s : State) (i : StationNo) (f : Record → Record) : (s.modRecord i f).holders = s.holders := rfl
@[simp] theorem State.modRecord_queue (s : State) (i : StationNo) (f : Record → Record) : (s.modRecord i f).queue = s.queue := rfl
@[simp] theorem State.modRecord_holdoffs (s : State) (i : StationNo) (f : Record → Record) : (s.modRecord i f).holdoffs = s.holdoffs := rfl
@[simp] theorem State.modRecord_nextGrant (s : State) (i : StationNo) (f : Record → Record) : (s.modRecord i f).nextGrant = s.nextGrant := rfl
@[simp] theorem State.modRecord_eqr (s : State) (i : StationNo) (f : Record → Record) : (s.modRecord i f).eqr = s.eqr := rfl
@[simp] theorem State.modRecord_eqrTimer (s : State) (i : StationNo) (f : Record → Record) : (s.modRecord i f).eqrTimer = s.eqrTimer := rfl
@[simp] theorem State.modRecord_releaseLine (s : State) (i : StationNo) (f : Record → Record) : (s.modRecord i f).releaseLine = s.releaseLine := rfl
@[simp] theorem State.modRecord_quayStop (s : State) (i : StationNo) (f : Record → Record) : (s.modRecord i f).quayStop = s.quayStop := rfl
@[simp] theorem State.modRecord_localControl (s : State) (i : StationNo) (f : Record → Record) : (s.modRecord i f).localControl = s.localControl := rfl
@[simp] theorem State.modRecord_nextLink (s : State) (i : StationNo) (f : Record → Record) : (s.modRecord i f).nextLink = s.nextLink := rfl
@[simp] theorem State.modRecord_links (s : State) (i : StationNo) (f : Record → Record) : (s.modRecord i f).links = s.links := rfl
@[simp] theorem State.modRecord_mailboxes (s : State) (i : StationNo) (f : Record → Record) : (s.modRecord i f).mailboxes = s.mailboxes := rfl
@[simp] theorem State.modRecord_profile (s : State) (i : StationNo) (f : Record → Record) : (s.modRecord i f).profile = s.profile := rfl
@[simp] theorem State.modRecord_saving (s : State) (i : StationNo) (f : Record → Record) : (s.modRecord i f).saving = s.saving := rfl
@[simp] theorem State.modRecord_reload (s : State) (i : StationNo) (f : Record → Record) : (s.modRecord i f).reload = s.reload := rfl
@[simp] theorem State.modRecord_underWay (s : State) (i : StationNo) (f : Record → Record) : (s.modRecord i f).underWay = s.underWay := rfl
@[simp] theorem State.modRecord_memory (s : State) (i : StationNo) (f : Record → Record) : (s.modRecord i f).memory = s.memory := rfl
@[simp] theorem State.modRecord_pending (s : State) (i : StationNo) (f : Record → Record) : (s.modRecord i f).pending = s.pending := rfl

/-! What `modPort` leaves as it is. -/

@[simp] theorem State.modPort_phase (s : State) (i : StationNo) (f : Port → Port) : (s.modPort i f).phase = s.phase := rfl
@[simp] theorem State.modPort_shortFlags (s : State) (i : StationNo) (f : Port → Port) : (s.modPort i f).shortFlags = s.shortFlags := rfl
@[simp] theorem State.modPort_params (s : State) (i : StationNo) (f : Port → Port) : (s.modPort i f).params = s.params := rfl
@[simp] theorem State.modPort_surgeTimer (s : State) (i : StationNo) (f : Port → Port) : (s.modPort i f).surgeTimer = s.surgeTimer := rfl
@[simp] theorem State.modPort_holders (s : State) (i : StationNo) (f : Port → Port) : (s.modPort i f).holders = s.holders := rfl
@[simp] theorem State.modPort_queue (s : State) (i : StationNo) (f : Port → Port) : (s.modPort i f).queue = s.queue := rfl
@[simp] theorem State.modPort_holdoffs (s : State) (i : StationNo) (f : Port → Port) : (s.modPort i f).holdoffs = s.holdoffs := rfl
@[simp] theorem State.modPort_nextGrant (s : State) (i : StationNo) (f : Port → Port) : (s.modPort i f).nextGrant = s.nextGrant := rfl
@[simp] theorem State.modPort_eqr (s : State) (i : StationNo) (f : Port → Port) : (s.modPort i f).eqr = s.eqr := rfl
@[simp] theorem State.modPort_eqrTimer (s : State) (i : StationNo) (f : Port → Port) : (s.modPort i f).eqrTimer = s.eqrTimer := rfl
@[simp] theorem State.modPort_releaseLine (s : State) (i : StationNo) (f : Port → Port) : (s.modPort i f).releaseLine = s.releaseLine := rfl
@[simp] theorem State.modPort_quayStop (s : State) (i : StationNo) (f : Port → Port) : (s.modPort i f).quayStop = s.quayStop := rfl
@[simp] theorem State.modPort_localControl (s : State) (i : StationNo) (f : Port → Port) : (s.modPort i f).localControl = s.localControl := rfl
@[simp] theorem State.modPort_nextLink (s : State) (i : StationNo) (f : Port → Port) : (s.modPort i f).nextLink = s.nextLink := rfl
@[simp] theorem State.modPort_links (s : State) (i : StationNo) (f : Port → Port) : (s.modPort i f).links = s.links := rfl
@[simp] theorem State.modPort_mailboxes (s : State) (i : StationNo) (f : Port → Port) : (s.modPort i f).mailboxes = s.mailboxes := rfl
@[simp] theorem State.modPort_profile (s : State) (i : StationNo) (f : Port → Port) : (s.modPort i f).profile = s.profile := rfl
@[simp] theorem State.modPort_saving (s : State) (i : StationNo) (f : Port → Port) : (s.modPort i f).saving = s.saving := rfl
@[simp] theorem State.modPort_reload (s : State) (i : StationNo) (f : Port → Port) : (s.modPort i f).reload = s.reload := rfl
@[simp] theorem State.modPort_underWay (s : State) (i : StationNo) (f : Port → Port) : (s.modPort i f).underWay = s.underWay := rfl
@[simp] theorem State.modPort_memory (s : State) (i : StationNo) (f : Port → Port) : (s.modPort i f).memory = s.memory := rfl
@[simp] theorem State.modPort_pending (s : State) (i : StationNo) (f : Port → Port) : (s.modPort i f).pending = s.pending := rfl

/-! What `modTension` leaves as it is. -/

@[simp] theorem State.modTension_phase (s : State) (i : StationNo) (f : Tension → Tension) : (s.modTension i f).phase = s.phase := rfl
@[simp] theorem State.modTension_shortFlags (s : State) (i : StationNo) (f : Tension → Tension) : (s.modTension i f).shortFlags = s.shortFlags := rfl
@[simp] theorem State.modTension_params (s : State) (i : StationNo) (f : Tension → Tension) : (s.modTension i f).params = s.params := rfl
@[simp] theorem State.modTension_surgeTimer (s : State) (i : StationNo) (f : Tension → Tension) : (s.modTension i f).surgeTimer = s.surgeTimer := rfl
@[simp] theorem State.modTension_holders (s : State) (i : StationNo) (f : Tension → Tension) : (s.modTension i f).holders = s.holders := rfl
@[simp] theorem State.modTension_queue (s : State) (i : StationNo) (f : Tension → Tension) : (s.modTension i f).queue = s.queue := rfl
@[simp] theorem State.modTension_holdoffs (s : State) (i : StationNo) (f : Tension → Tension) : (s.modTension i f).holdoffs = s.holdoffs := rfl
@[simp] theorem State.modTension_nextGrant (s : State) (i : StationNo) (f : Tension → Tension) : (s.modTension i f).nextGrant = s.nextGrant := rfl
@[simp] theorem State.modTension_eqr (s : State) (i : StationNo) (f : Tension → Tension) : (s.modTension i f).eqr = s.eqr := rfl
@[simp] theorem State.modTension_eqrTimer (s : State) (i : StationNo) (f : Tension → Tension) : (s.modTension i f).eqrTimer = s.eqrTimer := rfl
@[simp] theorem State.modTension_releaseLine (s : State) (i : StationNo) (f : Tension → Tension) : (s.modTension i f).releaseLine = s.releaseLine := rfl
@[simp] theorem State.modTension_quayStop (s : State) (i : StationNo) (f : Tension → Tension) : (s.modTension i f).quayStop = s.quayStop := rfl
@[simp] theorem State.modTension_localControl (s : State) (i : StationNo) (f : Tension → Tension) : (s.modTension i f).localControl = s.localControl := rfl
@[simp] theorem State.modTension_nextLink (s : State) (i : StationNo) (f : Tension → Tension) : (s.modTension i f).nextLink = s.nextLink := rfl
@[simp] theorem State.modTension_links (s : State) (i : StationNo) (f : Tension → Tension) : (s.modTension i f).links = s.links := rfl
@[simp] theorem State.modTension_mailboxes (s : State) (i : StationNo) (f : Tension → Tension) : (s.modTension i f).mailboxes = s.mailboxes := rfl
@[simp] theorem State.modTension_profile (s : State) (i : StationNo) (f : Tension → Tension) : (s.modTension i f).profile = s.profile := rfl
@[simp] theorem State.modTension_saving (s : State) (i : StationNo) (f : Tension → Tension) : (s.modTension i f).saving = s.saving := rfl
@[simp] theorem State.modTension_reload (s : State) (i : StationNo) (f : Tension → Tension) : (s.modTension i f).reload = s.reload := rfl
@[simp] theorem State.modTension_underWay (s : State) (i : StationNo) (f : Tension → Tension) : (s.modTension i f).underWay = s.underWay := rfl
@[simp] theorem State.modTension_memory (s : State) (i : StationNo) (f : Tension → Tension) : (s.modTension i f).memory = s.memory := rfl
@[simp] theorem State.modTension_pending (s : State) (i : StationNo) (f : Tension → Tension) : (s.modTension i f).pending = s.pending := rfl

/-! What `commandLatch` leaves as it is. -/

@[simp] theorem State.commandLatch_phase (s : State) (i : StationNo) (c : LatchCommand) : (s.commandLatch i c).phase = s.phase := rfl
@[simp] theorem State.commandLatch_shortFlags (s : State) (i : StationNo) (c : LatchCommand) : (s.commandLatch i c).shortFlags = s.shortFlags := rfl
@[simp] theorem State.commandLatch_params (s : State) (i : StationNo) (c : LatchCommand) : (s.commandLatch i c).params = s.params := rfl
@[simp] theorem State.commandLatch_surgeTimer (s : State) (i : StationNo) (c : LatchCommand) : (s.commandLatch i c).surgeTimer = s.surgeTimer := rfl
@[simp] theorem State.commandLatch_holders (s : State) (i : StationNo) (c : LatchCommand) : (s.commandLatch i c).holders = s.holders := rfl
@[simp] theorem State.commandLatch_queue (s : State) (i : StationNo) (c : LatchCommand) : (s.commandLatch i c).queue = s.queue := rfl
@[simp] theorem State.commandLatch_holdoffs (s : State) (i : StationNo) (c : LatchCommand) : (s.commandLatch i c).holdoffs = s.holdoffs := rfl
@[simp] theorem State.commandLatch_nextGrant (s : State) (i : StationNo) (c : LatchCommand) : (s.commandLatch i c).nextGrant = s.nextGrant := rfl
@[simp] theorem State.commandLatch_eqr (s : State) (i : StationNo) (c : LatchCommand) : (s.commandLatch i c).eqr = s.eqr := rfl
@[simp] theorem State.commandLatch_eqrTimer (s : State) (i : StationNo) (c : LatchCommand) : (s.commandLatch i c).eqrTimer = s.eqrTimer := rfl
@[simp] theorem State.commandLatch_releaseLine (s : State) (i : StationNo) (c : LatchCommand) : (s.commandLatch i c).releaseLine = s.releaseLine := rfl
@[simp] theorem State.commandLatch_quayStop (s : State) (i : StationNo) (c : LatchCommand) : (s.commandLatch i c).quayStop = s.quayStop := rfl
@[simp] theorem State.commandLatch_localControl (s : State) (i : StationNo) (c : LatchCommand) : (s.commandLatch i c).localControl = s.localControl := rfl
@[simp] theorem State.commandLatch_nextLink (s : State) (i : StationNo) (c : LatchCommand) : (s.commandLatch i c).nextLink = s.nextLink := rfl
@[simp] theorem State.commandLatch_links (s : State) (i : StationNo) (c : LatchCommand) : (s.commandLatch i c).links = s.links := rfl
@[simp] theorem State.commandLatch_mailboxes (s : State) (i : StationNo) (c : LatchCommand) : (s.commandLatch i c).mailboxes = s.mailboxes := rfl
@[simp] theorem State.commandLatch_profile (s : State) (i : StationNo) (c : LatchCommand) : (s.commandLatch i c).profile = s.profile := rfl
@[simp] theorem State.commandLatch_saving (s : State) (i : StationNo) (c : LatchCommand) : (s.commandLatch i c).saving = s.saving := rfl
@[simp] theorem State.commandLatch_reload (s : State) (i : StationNo) (c : LatchCommand) : (s.commandLatch i c).reload = s.reload := rfl
@[simp] theorem State.commandLatch_underWay (s : State) (i : StationNo) (c : LatchCommand) : (s.commandLatch i c).underWay = s.underWay := rfl
@[simp] theorem State.commandLatch_memory (s : State) (i : StationNo) (c : LatchCommand) : (s.commandLatch i c).memory = s.memory := rfl
@[simp] theorem State.commandLatch_pending (s : State) (i : StationNo) (c : LatchCommand) : (s.commandLatch i c).pending = s.pending := rfl

/-! What `sendSets` leaves as it is. -/

@[simp] theorem State.sendSets_phase (s : State) : (s.sendSets).phase = s.phase := rfl
@[simp] theorem State.sendSets_shortFlags (s : State) : (s.sendSets).shortFlags = s.shortFlags := rfl
@[simp] theorem State.sendSets_params (s : State) : (s.sendSets).params = s.params := rfl
@[simp] theorem State.sendSets_surgeTimer (s : State) : (s.sendSets).surgeTimer = s.surgeTimer := rfl
@[simp] theorem State.sendSets_holders (s : State) : (s.sendSets).holders = s.holders := rfl
@[simp] theorem State.sendSets_queue (s : State) : (s.sendSets).queue = s.queue := rfl
@[simp] theorem State.sendSets_holdoffs (s : State) : (s.sendSets).holdoffs = s.holdoffs := rfl
@[simp] theorem State.sendSets_nextGrant (s : State) : (s.sendSets).nextGrant = s.nextGrant := rfl
@[simp] theorem State.sendSets_eqr (s : State) : (s.sendSets).eqr = s.eqr := rfl
@[simp] theorem State.sendSets_eqrTimer (s : State) : (s.sendSets).eqrTimer = s.eqrTimer := rfl
@[simp] theorem State.sendSets_releaseLine (s : State) : (s.sendSets).releaseLine = s.releaseLine := rfl
@[simp] theorem State.sendSets_quayStop (s : State) : (s.sendSets).quayStop = s.quayStop := rfl
@[simp] theorem State.sendSets_localControl (s : State) : (s.sendSets).localControl = s.localControl := rfl
@[simp] theorem State.sendSets_nextLink (s : State) : (s.sendSets).nextLink = s.nextLink := rfl
@[simp] theorem State.sendSets_links (s : State) : (s.sendSets).links = s.links := rfl
@[simp] theorem State.sendSets_mailboxes (s : State) : (s.sendSets).mailboxes = s.mailboxes := rfl
@[simp] theorem State.sendSets_profile (s : State) : (s.sendSets).profile = s.profile := rfl
@[simp] theorem State.sendSets_saving (s : State) : (s.sendSets).saving = s.saving := rfl
@[simp] theorem State.sendSets_reload (s : State) : (s.sendSets).reload = s.reload := rfl
@[simp] theorem State.sendSets_underWay (s : State) : (s.sendSets).underWay = s.underWay := rfl
@[simp] theorem State.sendSets_memory (s : State) : (s.sendSets).memory = s.memory := rfl
@[simp] theorem State.sendSets_pending (s : State) : (s.sendSets).pending = s.pending := rfl

/-! ### Sending -/

@[simp] theorem Station.send_record (i : StationNo) (st : Station) : (st.send i).record = st.record := by
  unfold Station.send; split <;> rfl

@[simp] theorem Station.send_tension (i : StationNo) (st : Station) : (st.send i).tension = st.tension := by
  unfold Station.send; split <;> rfl

@[simp] theorem Station.send_readings (i : StationNo) (st : Station) : (st.send i).port.readings = st.port.readings := by
  unfold Station.send; split <;> rfl

@[simp] theorem Station.send_encoder (i : StationNo) (st : Station) : (st.send i).port.encoder = st.port.encoder := by
  unfold Station.send; split <;> rfl

@[simp] theorem Station.send_reportSinceFault (i : StationNo) (st : Station) : (st.send i).port.reportSinceFault = st.port.reportSinceFault := by
  unfold Station.send; split <;> rfl

@[simp] theorem Station.send_drive (i : StationNo) (st : Station) : (st.send i).port.drive = st.port.drive := by
  unfold Station.send; split <;> rfl

@[simp] theorem Station.send_brake (i : StationNo) (st : Station) : (st.send i).port.brake = st.port.brake := by
  unfold Station.send; split <;> rfl

@[simp] theorem Station.send_handshake (i : StationNo) (st : Station) : (st.send i).port.handshake = st.port.handshake := by
  unfold Station.send; split <;> rfl

@[simp] theorem Station.send_reportLossTimer (i : StationNo) (st : Station) : (st.send i).port.reportLossTimer = st.port.reportLossTimer := by
  unfold Station.send; split <;> rfl

@[simp] theorem Station.send_brakeTimer (i : StationNo) (st : Station) : (st.send i).port.brakeTimer = st.port.brakeTimer := by
  unfold Station.send; split <;> rfl

@[simp] theorem Station.send_stallTimer (i : StationNo) (st : Station) : (st.send i).port.stallTimer = st.port.stallTimer := by
  unfold Station.send; split <;> rfl

@[simp] theorem Station.send_block (i : StationNo) (st : Station) : (st.send i).port.block = st.port.block := by
  unfold Station.send; split <;> rfl

@[simp] theorem Station.send_sendDue (i : StationNo) (st : Station) : (st.send i).port.sendDue = false := by
  unfold Station.send
  split
  · rfl
  · rename_i h; simpa using h

@[simp] theorem Station.send_settling (i : StationNo) (st : Station) : (st.send i).settling = st.settling := by
  simp [Station.settling]

@[simp] theorem Station.send_request (i : StationNo) (st : Station) : (st.send i).request = st.request := by
  simp [Station.request]

/-! ### Links -/

@[simp] theorem PerMaster.get_set_same {α : Type} (p : PerMaster α) (m : Master) (a : α) : (p.set m a).get m = a := by
  cases m <;> rfl

@[simp] theorem PerMaster.get_set_ne {α : Type} (p : PerMaster α) {m n : Master} (a : α) (h : n ≠ m) :
    (p.set m a).get n = p.get n := by cases m <;> cases n <;> first | rfl | exact absurd rfl h

@[simp] theorem PerMaster.set_get {α : Type} (p : PerMaster α) (m : Master) : p.set m (p.get m) = p := by
  cases m <;> rfl

@[simp] theorem PerMaster.set_set {α : Type} (p : PerMaster α) (m : Master) (a b : α) : (p.set m a).set m b = p.set m b := by
  cases m <;> rfl

@[simp] theorem State.link_modLink_same (s : State) (m : Master) (f : Link → Link) : (s.modLink m f).link m = f (s.link m) := by
  simp [State.modLink, State.link]

@[simp] theorem State.link_modLink_ne (s : State) {m n : Master} (f : Link → Link) (h : n ≠ m) :
    (s.modLink m f).link n = s.link n := by simp [State.modLink, State.link, h]

@[simp] theorem State.st_modLink (s : State) (m : Master) (f : Link → Link) (j : StationNo) : (s.modLink m f).st j = s.st j := rfl

@[simp] theorem State.modLink_phase (s : State) (m : Master) (f : Link → Link) : (s.modLink m f).phase = s.phase := rfl
@[simp] theorem State.modLink_shortFlags (s : State) (m : Master) (f : Link → Link) : (s.modLink m f).shortFlags = s.shortFlags := rfl
@[simp] theorem State.modLink_params (s : State) (m : Master) (f : Link → Link) : (s.modLink m f).params = s.params := rfl
@[simp] theorem State.modLink_surgeTimer (s : State) (m : Master) (f : Link → Link) : (s.modLink m f).surgeTimer = s.surgeTimer := rfl
@[simp] theorem State.modLink_holders (s : State) (m : Master) (f : Link → Link) : (s.modLink m f).holders = s.holders := rfl
@[simp] theorem State.modLink_queue (s : State) (m : Master) (f : Link → Link) : (s.modLink m f).queue = s.queue := rfl
@[simp] theorem State.modLink_holdoffs (s : State) (m : Master) (f : Link → Link) : (s.modLink m f).holdoffs = s.holdoffs := rfl
@[simp] theorem State.modLink_nextGrant (s : State) (m : Master) (f : Link → Link) : (s.modLink m f).nextGrant = s.nextGrant := rfl
@[simp] theorem State.modLink_eqr (s : State) (m : Master) (f : Link → Link) : (s.modLink m f).eqr = s.eqr := rfl
@[simp] theorem State.modLink_eqrTimer (s : State) (m : Master) (f : Link → Link) : (s.modLink m f).eqrTimer = s.eqrTimer := rfl
@[simp] theorem State.modLink_releaseLine (s : State) (m : Master) (f : Link → Link) : (s.modLink m f).releaseLine = s.releaseLine := rfl
@[simp] theorem State.modLink_quayStop (s : State) (m : Master) (f : Link → Link) : (s.modLink m f).quayStop = s.quayStop := rfl
@[simp] theorem State.modLink_localControl (s : State) (m : Master) (f : Link → Link) : (s.modLink m f).localControl = s.localControl := rfl
@[simp] theorem State.modLink_nextLink (s : State) (m : Master) (f : Link → Link) : (s.modLink m f).nextLink = s.nextLink := rfl
@[simp] theorem State.modLink_mailboxes (s : State) (m : Master) (f : Link → Link) : (s.modLink m f).mailboxes = s.mailboxes := rfl
@[simp] theorem State.modLink_profile (s : State) (m : Master) (f : Link → Link) : (s.modLink m f).profile = s.profile := rfl
@[simp] theorem State.modLink_saving (s : State) (m : Master) (f : Link → Link) : (s.modLink m f).saving = s.saving := rfl
@[simp] theorem State.modLink_reload (s : State) (m : Master) (f : Link → Link) : (s.modLink m f).reload = s.reload := rfl
@[simp] theorem State.modLink_underWay (s : State) (m : Master) (f : Link → Link) : (s.modLink m f).underWay = s.underWay := rfl
@[simp] theorem State.modLink_memory (s : State) (m : Master) (f : Link → Link) : (s.modLink m f).memory = s.memory := rfl
@[simp] theorem State.modLink_pending (s : State) (m : Master) (f : Link → Link) : (s.modLink m f).pending = s.pending := rfl

/-! ### Nothing changed -/

/-- A station updated to what it is. -/
@[simp] theorem State.modSt_id (s : State) (i : StationNo) : s.modSt i (fun st => st) = s := by
  simp [State.modSt, State.st]

end Sys2Proof.Machine
end

