-- ==== Sys2Proof/Laws/Alerts.lean ====
section
/-! SUPPORT. What raising an alert changes, and how the alerts of several pieces of work follow one another (R138 to R143, R147). -/

namespace Sys2Proof.Machine

/-! ### Raising changes the three queues only -/

@[simp] theorem State.raiseBy_phase (s : State) (r : Vector (PerMaster Nat) 16) (a : Alert) (o : Option Master) : (s.raiseBy r a o).phase = s.phase := rfl
@[simp] theorem State.raiseBy_shortFlags (s : State) (r : Vector (PerMaster Nat) 16) (a : Alert) (o : Option Master) : (s.raiseBy r a o).shortFlags = s.shortFlags := rfl
@[simp] theorem State.raiseBy_params (s : State) (r : Vector (PerMaster Nat) 16) (a : Alert) (o : Option Master) : (s.raiseBy r a o).params = s.params := rfl
@[simp] theorem State.raiseBy_stations (s : State) (r : Vector (PerMaster Nat) 16) (a : Alert) (o : Option Master) : (s.raiseBy r a o).stations = s.stations := rfl
@[simp] theorem State.raiseBy_surgeTimer (s : State) (r : Vector (PerMaster Nat) 16) (a : Alert) (o : Option Master) : (s.raiseBy r a o).surgeTimer = s.surgeTimer := rfl
@[simp] theorem State.raiseBy_holders (s : State) (r : Vector (PerMaster Nat) 16) (a : Alert) (o : Option Master) : (s.raiseBy r a o).holders = s.holders := rfl
@[simp] theorem State.raiseBy_queue (s : State) (r : Vector (PerMaster Nat) 16) (a : Alert) (o : Option Master) : (s.raiseBy r a o).queue = s.queue := rfl
@[simp] theorem State.raiseBy_holdoffs (s : State) (r : Vector (PerMaster Nat) 16) (a : Alert) (o : Option Master) : (s.raiseBy r a o).holdoffs = s.holdoffs := rfl
@[simp] theorem State.raiseBy_nextGrant (s : State) (r : Vector (PerMaster Nat) 16) (a : Alert) (o : Option Master) : (s.raiseBy r a o).nextGrant = s.nextGrant := rfl
@[simp] theorem State.raiseBy_eqr (s : State) (r : Vector (PerMaster Nat) 16) (a : Alert) (o : Option Master) : (s.raiseBy r a o).eqr = s.eqr := rfl
@[simp] theorem State.raiseBy_eqrTimer (s : State) (r : Vector (PerMaster Nat) 16) (a : Alert) (o : Option Master) : (s.raiseBy r a o).eqrTimer = s.eqrTimer := rfl
@[simp] theorem State.raiseBy_releaseLine (s : State) (r : Vector (PerMaster Nat) 16) (a : Alert) (o : Option Master) : (s.raiseBy r a o).releaseLine = s.releaseLine := rfl
@[simp] theorem State.raiseBy_quayStop (s : State) (r : Vector (PerMaster Nat) 16) (a : Alert) (o : Option Master) : (s.raiseBy r a o).quayStop = s.quayStop := rfl
@[simp] theorem State.raiseBy_localControl (s : State) (r : Vector (PerMaster Nat) 16) (a : Alert) (o : Option Master) : (s.raiseBy r a o).localControl = s.localControl := rfl
@[simp] theorem State.raiseBy_nextLink (s : State) (r : Vector (PerMaster Nat) 16) (a : Alert) (o : Option Master) : (s.raiseBy r a o).nextLink = s.nextLink := rfl
@[simp] theorem State.raiseBy_links (s : State) (r : Vector (PerMaster Nat) 16) (a : Alert) (o : Option Master) : (s.raiseBy r a o).links = s.links := rfl
@[simp] theorem State.raiseBy_profile (s : State) (r : Vector (PerMaster Nat) 16) (a : Alert) (o : Option Master) : (s.raiseBy r a o).profile = s.profile := rfl
@[simp] theorem State.raiseBy_saving (s : State) (r : Vector (PerMaster Nat) 16) (a : Alert) (o : Option Master) : (s.raiseBy r a o).saving = s.saving := rfl
@[simp] theorem State.raiseBy_reload (s : State) (r : Vector (PerMaster Nat) 16) (a : Alert) (o : Option Master) : (s.raiseBy r a o).reload = s.reload := rfl
@[simp] theorem State.raiseBy_underWay (s : State) (r : Vector (PerMaster Nat) 16) (a : Alert) (o : Option Master) : (s.raiseBy r a o).underWay = s.underWay := rfl
@[simp] theorem State.raiseBy_memory (s : State) (r : Vector (PerMaster Nat) 16) (a : Alert) (o : Option Master) : (s.raiseBy r a o).memory = s.memory := rfl
@[simp] theorem State.raiseBy_pending (s : State) (r : Vector (PerMaster Nat) 16) (a : Alert) (o : Option Master) : (s.raiseBy r a o).pending = s.pending := rfl
@[simp] theorem State.st_raiseBy (s : State) (r : Vector (PerMaster Nat) 16) (a : Alert) (o : Option Master) (j : StationNo) : (s.raiseBy r a o).st j = s.st j := rfl

@[simp] theorem State.raise_phase (s : State) (k : AlertKind) (x : Subject) (d : Nat) : (s.raise k x d).phase = s.phase := rfl
@[simp] theorem State.raise_shortFlags (s : State) (k : AlertKind) (x : Subject) (d : Nat) : (s.raise k x d).shortFlags = s.shortFlags := rfl
@[simp] theorem State.raise_params (s : State) (k : AlertKind) (x : Subject) (d : Nat) : (s.raise k x d).params = s.params := rfl
@[simp] theorem State.raise_stations (s : State) (k : AlertKind) (x : Subject) (d : Nat) : (s.raise k x d).stations = s.stations := rfl
@[simp] theorem State.raise_surgeTimer (s : State) (k : AlertKind) (x : Subject) (d : Nat) : (s.raise k x d).surgeTimer = s.surgeTimer := rfl
@[simp] theorem State.raise_holders (s : State) (k : AlertKind) (x : Subject) (d : Nat) : (s.raise k x d).holders = s.holders := rfl
@[simp] theorem State.raise_queue (s : State) (k : AlertKind) (x : Subject) (d : Nat) : (s.raise k x d).queue = s.queue := rfl
@[simp] theorem State.raise_holdoffs (s : State) (k : AlertKind) (x : Subject) (d : Nat) : (s.raise k x d).holdoffs = s.holdoffs := rfl
@[simp] theorem State.raise_nextGrant (s : State) (k : AlertKind) (x : Subject) (d : Nat) : (s.raise k x d).nextGrant = s.nextGrant := rfl
@[simp] theorem State.raise_eqr (s : State) (k : AlertKind) (x : Subject) (d : Nat) : (s.raise k x d).eqr = s.eqr := rfl
@[simp] theorem State.raise_eqrTimer (s : State) (k : AlertKind) (x : Subject) (d : Nat) : (s.raise k x d).eqrTimer = s.eqrTimer := rfl
@[simp] theorem State.raise_releaseLine (s : State) (k : AlertKind) (x : Subject) (d : Nat) : (s.raise k x d).releaseLine = s.releaseLine := rfl
@[simp] theorem State.raise_quayStop (s : State) (k : AlertKind) (x : Subject) (d : Nat) : (s.raise k x d).quayStop = s.quayStop := rfl
@[simp] theorem State.raise_localControl (s : State) (k : AlertKind) (x : Subject) (d : Nat) : (s.raise k x d).localControl = s.localControl := rfl
@[simp] theorem State.raise_nextLink (s : State) (k : AlertKind) (x : Subject) (d : Nat) : (s.raise k x d).nextLink = s.nextLink := rfl
@[simp] theorem State.raise_links (s : State) (k : AlertKind) (x : Subject) (d : Nat) : (s.raise k x d).links = s.links := rfl
@[simp] theorem State.raise_profile (s : State) (k : AlertKind) (x : Subject) (d : Nat) : (s.raise k x d).profile = s.profile := rfl
@[simp] theorem State.raise_saving (s : State) (k : AlertKind) (x : Subject) (d : Nat) : (s.raise k x d).saving = s.saving := rfl
@[simp] theorem State.raise_reload (s : State) (k : AlertKind) (x : Subject) (d : Nat) : (s.raise k x d).reload = s.reload := rfl
@[simp] theorem State.raise_underWay (s : State) (k : AlertKind) (x : Subject) (d : Nat) : (s.raise k x d).underWay = s.underWay := rfl
@[simp] theorem State.raise_memory (s : State) (k : AlertKind) (x : Subject) (d : Nat) : (s.raise k x d).memory = s.memory := rfl
@[simp] theorem State.raise_pending (s : State) (k : AlertKind) (x : Subject) (d : Nat) : (s.raise k x d).pending = s.pending := rfl
@[simp] theorem State.st_raise (s : State) (k : AlertKind) (x : Subject) (d : Nat) (j : StationNo) : (s.raise k x d).st j = s.st j := rfl

@[simp] theorem State.raiseOwned_phase (s : State) (k : AlertKind) (x : Subject) (d : Nat) (o : Option Master) : (s.raiseOwned k x d o).phase = s.phase := rfl
@[simp] theorem State.raiseOwned_shortFlags (s : State) (k : AlertKind) (x : Subject) (d : Nat) (o : Option Master) : (s.raiseOwned k x d o).shortFlags = s.shortFlags := rfl
@[simp] theorem State.raiseOwned_params (s : State) (k : AlertKind) (x : Subject) (d : Nat) (o : Option Master) : (s.raiseOwned k x d o).params = s.params := rfl
@[simp] theorem State.raiseOwned_stations (s : State) (k : AlertKind) (x : Subject) (d : Nat) (o : Option Master) : (s.raiseOwned k x d o).stations = s.stations := rfl
@[simp] theorem State.raiseOwned_surgeTimer (s : State) (k : AlertKind) (x : Subject) (d : Nat) (o : Option Master) : (s.raiseOwned k x d o).surgeTimer = s.surgeTimer := rfl
@[simp] theorem State.raiseOwned_holders (s : State) (k : AlertKind) (x : Subject) (d : Nat) (o : Option Master) : (s.raiseOwned k x d o).holders = s.holders := rfl
@[simp] theorem State.raiseOwned_queue (s : State) (k : AlertKind) (x : Subject) (d : Nat) (o : Option Master) : (s.raiseOwned k x d o).queue = s.queue := rfl
@[simp] theorem State.raiseOwned_holdoffs (s : State) (k : AlertKind) (x : Subject) (d : Nat) (o : Option Master) : (s.raiseOwned k x d o).holdoffs = s.holdoffs := rfl
@[simp] theorem State.raiseOwned_nextGrant (s : State) (k : AlertKind) (x : Subject) (d : Nat) (o : Option Master) : (s.raiseOwned k x d o).nextGrant = s.nextGrant := rfl
@[simp] theorem State.raiseOwned_eqr (s : State) (k : AlertKind) (x : Subject) (d : Nat) (o : Option Master) : (s.raiseOwned k x d o).eqr = s.eqr := rfl
@[simp] theorem State.raiseOwned_eqrTimer (s : State) (k : AlertKind) (x : Subject) (d : Nat) (o : Option Master) : (s.raiseOwned k x d o).eqrTimer = s.eqrTimer := rfl
@[simp] theorem State.raiseOwned_releaseLine (s : State) (k : AlertKind) (x : Subject) (d : Nat) (o : Option Master) : (s.raiseOwned k x d o).releaseLine = s.releaseLine := rfl
@[simp] theorem State.raiseOwned_quayStop (s : State) (k : AlertKind) (x : Subject) (d : Nat) (o : Option Master) : (s.raiseOwned k x d o).quayStop = s.quayStop := rfl
@[simp] theorem State.raiseOwned_localControl (s : State) (k : AlertKind) (x : Subject) (d : Nat) (o : Option Master) : (s.raiseOwned k x d o).localControl = s.localControl := rfl
@[simp] theorem State.raiseOwned_nextLink (s : State) (k : AlertKind) (x : Subject) (d : Nat) (o : Option Master) : (s.raiseOwned k x d o).nextLink = s.nextLink := rfl
@[simp] theorem State.raiseOwned_links (s : State) (k : AlertKind) (x : Subject) (d : Nat) (o : Option Master) : (s.raiseOwned k x d o).links = s.links := rfl
@[simp] theorem State.raiseOwned_profile (s : State) (k : AlertKind) (x : Subject) (d : Nat) (o : Option Master) : (s.raiseOwned k x d o).profile = s.profile := rfl
@[simp] theorem State.raiseOwned_saving (s : State) (k : AlertKind) (x : Subject) (d : Nat) (o : Option Master) : (s.raiseOwned k x d o).saving = s.saving := rfl
@[simp] theorem State.raiseOwned_reload (s : State) (k : AlertKind) (x : Subject) (d : Nat) (o : Option Master) : (s.raiseOwned k x d o).reload = s.reload := rfl
@[simp] theorem State.raiseOwned_underWay (s : State) (k : AlertKind) (x : Subject) (d : Nat) (o : Option Master) : (s.raiseOwned k x d o).underWay = s.underWay := rfl
@[simp] theorem State.raiseOwned_memory (s : State) (k : AlertKind) (x : Subject) (d : Nat) (o : Option Master) : (s.raiseOwned k x d o).memory = s.memory := rfl
@[simp] theorem State.raiseOwned_pending (s : State) (k : AlertKind) (x : Subject) (d : Nat) (o : Option Master) : (s.raiseOwned k x d o).pending = s.pending := rfl
@[simp] theorem State.st_raiseOwned (s : State) (k : AlertKind) (x : Subject) (d : Nat) (o : Option Master) (j : StationNo) : (s.raiseOwned k x d o).st j = s.st j := rfl

/-- The queues after an alert follow from the queues and the parameters before it alone. -/
theorem State.raiseBy_mailboxes_congr {s t : State} (hm : t.mailboxes = s.mailboxes) (hp : t.params = s.params)
    (r : Vector (PerMaster Nat) 16) (a : Alert) (o : Option Master) :
    (t.raiseBy r a o).mailboxes = (s.raiseBy r a o).mailboxes := by
  simp only [State.raiseBy, State.offered, State.threshold, State.berth, hm, hp]

/-! ### Several alerts -/

@[simp] theorem State.raiseAll_nil (s : State) : s.raiseAll [] = s := rfl

@[simp] theorem State.raiseAll_params (s : State) (as : List (Alert × Option Master)) : (s.raiseAll as).params = s.params := by
  induction as generalizing s with
  | nil => rfl
  | cons a as ih => simpa [State.raiseAll] using ih (s.raiseBy s.params.routing a.1 a.2)

theorem State.raiseAll_append (s : State) (as bs : List (Alert × Option Master)) :
    s.raiseAll (as ++ bs) = (s.raiseAll as).raiseAll bs := by simp [State.raiseAll]

/-- The queues after several alerts follow from the queues and the parameters before them alone. -/
theorem State.raiseAll_mailboxes_congr {s t : State} (hm : t.mailboxes = s.mailboxes) (hp : t.params = s.params)
    (as : List (Alert × Option Master)) : (t.raiseAll as).mailboxes = (s.raiseAll as).mailboxes := by
  induction as generalizing s t with
  | nil => exact hm
  | cons a as ih =>
    refine ih (s := s.raiseBy s.params.routing a.1 a.2) (t := t.raiseBy t.params.routing a.1 a.2) ?_ hp
    rw [hp]
    exact State.raiseBy_mailboxes_congr hm hp _ _ _

/-- Work that leaves the queues as they are raises nothing. -/
theorem Raised.of_mailboxes {s t : State} {k : List AlertKind} (h : t.mailboxes = s.mailboxes) : Raised s t [] k :=
  ⟨[], rfl, h⟩

/-- Alerts of one piece of work followed by those of the next. -/
theorem Raised.trans {s t u : State} {a b : List (Alert × Option Master)} {k : List AlertKind} (h : Raised s t a k)
    (hp : t.params = s.params) (h' : Raised t u b k) : Raised s u (a ++ b) k := by
  obtain ⟨as, ha, hs⟩ := h
  obtain ⟨bs, hb, ht⟩ := h'
  refine ⟨as ++ bs, by rw [List.filter_append, ha, hb], ?_⟩
  rw [ht, State.raiseAll_append]
  exact State.raiseAll_mailboxes_congr hs (by simpa using hp) bs

/-- One alert with its owner, of a kind that is named. -/
theorem Raised.one (s : State) (a : Alert) (o : Option Master) {k : List AlertKind} (h : a.kind ∉ k) :
    Raised s (s.raiseBy s.params.routing a o) [(a, o)] k := ⟨[(a, o)], by simp [List.filter, h], rfl⟩

/-- One alert of a kind that goes unnamed. -/
theorem Raised.hidden (s : State) (a : Alert) (o : Option Master) {k : List AlertKind} (h : a.kind ∈ k) :
    Raised s (s.raiseBy s.params.routing a o) [] k := ⟨[(a, o)], by simp [List.filter, h], rfl⟩

/-- What raises alerts of some kinds raises alerts of those kinds and more. -/
theorem Raised.widen {s t : State} {k k' : List AlertKind} (h : Raised s t [] k) (hk : ∀ x ∈ k, x ∈ k') : Raised s t [] k' := by
  obtain ⟨as, ha, hs⟩ := h
  refine ⟨as, ?_, hs⟩
  rw [List.filter_eq_nil_iff] at ha ⊢
  intro a hm
  have := ha a hm
  simp only [decide_eq_true_eq, not_not] at this ⊢
  exact hk _ this

/-- The same alerts from a part whose queues and parameters are the same. -/
theorem Raised.from_congr {s s' t : State} {a : List (Alert × Option Master)} {k : List AlertKind}
    (h : Raised s t a k) (hm : s'.mailboxes = s.mailboxes) (hp : s'.params = s.params) : Raised s' t a k := by
  obtain ⟨as, ha, hs⟩ := h
  exact ⟨as, ha, hs.trans (State.raiseAll_mailboxes_congr hm hp as).symm⟩

/-- The same alerts to a part whose queues are the same. -/
theorem Raised.to_congr {s t t' : State} {a : List (Alert × Option Master)} {k : List AlertKind}
    (h : Raised s t a k) (hm : t'.mailboxes = t.mailboxes) : Raised s t' a k := by
  obtain ⟨as, ha, hs⟩ := h
  exact ⟨as, ha, hm.trans hs⟩

end Sys2Proof.Machine
end

