-- ==== Sys2Proof/Laws/Drive.lean ====
section
/-! SUPPORT. What the Drive Arbiter's work can do: it changes the Arbiter's lists and the commands, handshake and timers of ports,
and raises PREEMPTED alone (R107 to R119). `DriveWork s t` says it once; each operation has one lemma that it is such work. -/

namespace Sys2Proof.Machine

/-- A port less what the brake handshake works on. -/
def Port.sansDrive (p : Port) : Port :=
  { p with drive := .off, brake := .set, handshake := .rest, brakeTimer := .stopped, stallTimer := none, sendDue := false }

/-- A station less what the brake handshake works on. -/
def Station.sansDrive (st : Station) : Station := { st with port := st.port.sansDrive }

/-- The part less the Arbiter's lists, the alert queues and what the brake handshake works on. -/
def State.sansDrive (s : State) : State :=
  { s with
    stations := s.stations.map Station.sansDrive, holders := [], queue := [], holdoffs := [], nextGrant := 0,
    mailboxes := ⟨.empty, .empty, .empty⟩ }

/-- From `s` to `t` the Drive Arbiter and the ports' handshakes have worked, and nothing else. -/
structure DriveWork (s t : State) : Prop where
  same : t.sansDrive = s.sansDrive
  alerts : Raised s t [] [.preempted]

theorem State.sansDrive_st (s : State) (i : StationNo) : s.sansDrive.st i = (s.st i).sansDrive := by
  simp [State.sansDrive, State.st]

namespace DriveWork

variable {s t u : State}

/-! ### What drive work keeps -/

theorem phase (h : DriveWork s t) : t.phase = s.phase := (congrArg State.phase h.same :)
theorem shortFlags (h : DriveWork s t) : t.shortFlags = s.shortFlags := (congrArg State.shortFlags h.same :)
theorem params (h : DriveWork s t) : t.params = s.params := (congrArg State.params h.same :)
theorem surgeTimer (h : DriveWork s t) : t.surgeTimer = s.surgeTimer := (congrArg State.surgeTimer h.same :)
theorem eqr (h : DriveWork s t) : t.eqr = s.eqr := (congrArg State.eqr h.same :)
theorem eqrTimer (h : DriveWork s t) : t.eqrTimer = s.eqrTimer := (congrArg State.eqrTimer h.same :)
theorem releaseLine (h : DriveWork s t) : t.releaseLine = s.releaseLine := (congrArg State.releaseLine h.same :)
theorem quayStop (h : DriveWork s t) : t.quayStop = s.quayStop := (congrArg State.quayStop h.same :)
theorem localControl (h : DriveWork s t) : t.localControl = s.localControl := (congrArg State.localControl h.same :)
theorem nextLink (h : DriveWork s t) : t.nextLink = s.nextLink := (congrArg State.nextLink h.same :)
theorem links (h : DriveWork s t) : t.links = s.links := (congrArg State.links h.same :)
theorem profile (h : DriveWork s t) : t.profile = s.profile := (congrArg State.profile h.same :)
theorem saving (h : DriveWork s t) : t.saving = s.saving := (congrArg State.saving h.same :)
theorem reload (h : DriveWork s t) : t.reload = s.reload := (congrArg State.reload h.same :)
theorem memory (h : DriveWork s t) : t.memory = s.memory := (congrArg State.memory h.same :)
theorem pending (h : DriveWork s t) : t.pending = s.pending := (congrArg State.pending h.same :)
theorem underWay (h : DriveWork s t) : t.underWay = s.underWay := (congrArg State.underWay h.same :)

theorem station (h : DriveWork s t) (i : StationNo) : (t.st i).sansDrive = (s.st i).sansDrive := by
  rw [← State.sansDrive_st, ← State.sansDrive_st, h.same]

theorem record (h : DriveWork s t) (i : StationNo) : (t.st i).record = (s.st i).record := (congrArg Station.record (h.station i) :)
theorem tension (h : DriveWork s t) (i : StationNo) : (t.st i).tension = (s.st i).tension := (congrArg Station.tension (h.station i) :)

theorem port (h : DriveWork s t) (i : StationNo) : (t.st i).port.sansDrive = (s.st i).port.sansDrive :=
  (congrArg Station.port (h.station i) :)

theorem readings (h : DriveWork s t) (i : StationNo) : (t.st i).port.readings = (s.st i).port.readings :=
  (congrArg Port.readings (h.port i) :)

theorem encoder (h : DriveWork s t) (i : StationNo) : (t.st i).port.encoder = (s.st i).port.encoder :=
  (congrArg Port.encoder (h.port i) :)

theorem block (h : DriveWork s t) (i : StationNo) : (t.st i).port.block = (s.st i).port.block := (congrArg Port.block (h.port i) :)

theorem reportSinceFault (h : DriveWork s t) (i : StationNo) :
    (t.st i).port.reportSinceFault = (s.st i).port.reportSinceFault := (congrArg Port.reportSinceFault (h.port i) :)

theorem reportLossTimer (h : DriveWork s t) (i : StationNo) :
    (t.st i).port.reportLossTimer = (s.st i).port.reportLossTimer := (congrArg Port.reportLossTimer (h.port i) :)

theorem sentSet (h : DriveWork s t) (i : StationNo) : (t.st i).port.sentSet = (s.st i).port.sentSet :=
  (congrArg Port.sentSet (h.port i) :)

theorem sends (h : DriveWork s t) (i : StationNo) : (t.st i).port.sends = (s.st i).port.sends := (congrArg Port.sends (h.port i) :)

theorem sensed (h : DriveWork s t) (i : StationNo) : SameSensed (s.st i).port (t.st i).port :=
  ⟨h.readings i, h.encoder i, h.block i, h.reportSinceFault i, h.reportLossTimer i⟩

theorem request (h : DriveWork s t) (i : StationNo) : (t.st i).request = (s.st i).request := by
  simp only [Station.request, h.record i]

theorem settling (h : DriveWork s t) (i : StationNo) : (t.st i).settling = (s.st i).settling := by
  simp only [Station.settling, h.record i]

theorem latchReading (h : DriveWork s t) (i : StationNo) : (t.st i).latchReading = (s.st i).latchReading := by
  simp only [Station.latchReading, h.readings i]

theorem holding (h : DriveWork s t) (i : StationNo) : (t.st i).holding = (s.st i).holding := by
  simp only [Station.holding, h.record i]

theorem engaged (h : DriveWork s t) (i : StationNo) : (t.st i).engaged = (s.st i).engaged := by
  simp only [Station.engaged, h.record i, h.latchReading i]

theorem sameBerth (h : DriveWork s t) : SameBerth s t :=
  ⟨h.params, h.localControl, h.profile, h.saving, h.reload, h.memory, h.pending, h.underWay, h.releaseLine, h.quayStop⟩

theorem sameWatch (h : DriveWork s t) : SameWatch s t := ⟨h.eqr, h.eqrTimer, h.surgeTimer⟩

theorem sameLinks (h : DriveWork s t) : SameLinks s t := ⟨h.links, h.nextLink⟩

theorem othersKept (h : DriveWork s t) (i : StationNo) : OthersKept i s t :=
  fun j _ => ⟨h.record j, h.tension j, h.sensed j⟩

/-! ### How drive work is put together -/

theorem refl (s : State) : DriveWork s s := ⟨rfl, .of_mailboxes rfl⟩

theorem trans (h : DriveWork s t) (h' : DriveWork t u) : DriveWork s u :=
  ⟨h'.same.trans h.same, by simpa using h.alerts.trans h.params h'.alerts⟩

/-- New lists for the Arbiter. -/
theorem lists (s : State) (hs : List Holder) (q : List QueueEntry) (l : List Holdoff) (n : Nat) :
    DriveWork s { s with holders := hs, queue := q, holdoffs := l, nextGrant := n } := ⟨rfl, .of_mailboxes rfl⟩

/-- A change of one port that keeps all but what the handshake works on. -/
theorem modPort (s : State) (i : StationNo) (f : Port → Port) (hf : ∀ p, (f p).sansDrive = p.sansDrive) :
    DriveWork s (s.modPort i f) := by
  refine ⟨?_, .of_mailboxes rfl⟩
  have h : (s.modPort i f).stations.map Station.sansDrive = s.stations.map Station.sansDrive := by
    apply Vector.ext
    intro k hk
    simp only [Vector.getElem_map]
    have := State.st_modPort s i ⟨k, hk⟩ f
    simp only [State.st, Fin.getElem_fin] at this
    rw [this]
    by_cases e : (⟨k, hk⟩ : StationNo) = i
    · subst e
      simp [Station.sansDrive, hf]
    · simp [e]
  unfold State.sansDrive
  rw [h]
  rfl

/-- The alert PREEMPTED. -/
theorem preempted (s : State) (x : Subject) (d : Nat) : DriveWork s (s.raise .preempted x d) :=
  ⟨rfl, .hidden s ⟨.preempted, x, d⟩ none (by simp)⟩

end DriveWork

/-! ### The port's commands -/

theorem Port.command_sansDrive (p : Port) (d : DriveCommand) (b : Brake) : (p.command d b).sansDrive = p.sansDrive := rfl

theorem Port.beginFreeing_sansDrive (n : Nat) (p : Port) : (p.beginFreeing n).sansDrive = p.sansDrive := rfl

theorem Port.endMotion_sansDrive (n : Nat) (p : Port) : (p.endMotion n).sansDrive = p.sansDrive := by
  unfold Port.endMotion; split <;> rfl

theorem Port.makeSafe_sansDrive (n : Nat) (p : Port) : (p.makeSafe n).sansDrive = p.sansDrive := rfl

theorem Port.steer_sansDrive (n : Nat) (d : Direction) (p : Port) : (p.steer n d).sansDrive = p.sansDrive := by
  unfold Port.steer; split <;> rfl

theorem Port.brakeAppliedDriving_sansDrive (n : Nat) (p : Port) : (p.brakeAppliedDriving n).sansDrive = p.sansDrive := rfl

theorem Port.endHandshake_sansDrive (p : Port) : p.endHandshake.sansDrive = p.sansDrive := rfl

/-! ### The Arbiter's operations -/

theorem State.portSafe_work (s : State) (i : StationNo) : DriveWork s (s.portSafe i) :=
  .modPort s i _ (Port.makeSafe_sansDrive _)

theorem State.grantHead_work (s : State) : DriveWork s s.grantHead := by
  unfold State.grantHead
  split
  · exact .refl s
  · exact (DriveWork.lists s _ _ s.holdoffs _).trans (.modPort _ _ _ (Port.beginFreeing_sansDrive _))

theorem giveGrants_work (n : Nat) (s : State) : DriveWork s (giveGrants n s) := by
  induction n generalizing s with
  | zero => exact .refl s
  | succ n ih =>
    unfold giveGrants
    split
    · exact s.grantHead_work.trans (ih _)
    · exact .refl s

theorem State.stopHolder_work (s : State) (i : StationNo) (after : AfterReturn) : DriveWork s (s.stopHolder i after) :=
  (DriveWork.lists s _ s.queue s.holdoffs s.nextGrant).trans (.modPort _ _ _ (Port.endMotion_sansDrive _))

theorem State.preemptOne_work {s t : State} (h : s.preemptOne = some t) : DriveWork s t := by
  unfold State.preemptOne at h
  split at h
  · cases h
    exact (s.stopHolder_work _ _).trans (.preempted _ _ _)
  · cases h

theorem givePreemptions_work (n : Nat) (s : State) : DriveWork s (givePreemptions n s) := by
  induction n generalizing s with
  | zero => exact .refl s
  | succ n ih =>
    unfold givePreemptions
    split
    · rename_i h
      exact (State.preemptOne_work h).trans (ih _)
    · exact .refl s

theorem State.arbiterTest_work (s : State) : DriveWork s s.arbiterTest :=
  (giveGrants_work _ s).trans (givePreemptions_work _ _)

theorem State.joinBack_work (s : State) (i : StationNo) (cls : Nat) : DriveWork s (s.joinBack i cls) :=
  .lists s s.holders _ s.holdoffs s.nextGrant

theorem State.dequeue_work (s : State) (i : StationNo) : DriveWork s (s.dequeue i) := .lists s s.holders _ _ s.nextGrant

theorem State.dropHolder_work (s : State) (i : StationNo) : DriveWork s (s.dropHolder i) :=
  .lists s _ s.queue s.holdoffs s.nextGrant

theorem State.requestGrant_work (s : State) (i : StationNo) (cls : Nat) : DriveWork s (s.requestGrant i cls) := by
  unfold State.requestGrant
  split
  · exact .refl s
  · exact (s.joinBack_work i cls).trans (State.arbiterTest_work _)

theorem State.withdraw_work (s : State) (i : StationNo) : DriveWork s (s.withdraw i) := by
  unfold State.withdraw
  split
  · exact (s.stopHolder_work i _).trans (State.arbiterTest_work _)
  · exact s.dequeue_work i

theorem State.reclass_work (s : State) (i : StationNo) (cls : Nat) : DriveWork s (s.reclass i cls) := by
  unfold State.reclass
  split
  · split
    · exact .refl s
    · exact (DriveWork.lists s _ s.queue s.holdoffs s.nextGrant).trans (State.arbiterTest_work _)
  · split
    · split
      · exact .refl s
      · exact ((s.dequeue_work i).trans (State.joinBack_work _ i cls)).trans (State.arbiterTest_work _)
    · exact .refl s

theorem State.removeAtOnce_work (s : State) (i : StationNo) : DriveWork s (s.removeAtOnce i) := by
  unfold State.removeAtOnce
  split
  · exact ((s.dropHolder_work i).trans (State.dequeue_work _ i)).trans (State.arbiterTest_work _)
  · exact s.dequeue_work i

theorem State.beginHoldoff_work (s : State) (i : StationNo) : DriveWork s (s.beginHoldoff i) := by
  unfold State.beginHoldoff
  split
  · exact s.joinBack_work i 2
  · exact .lists s s.holders s.queue _ s.nextGrant

theorem State.afterReturn_work (s : State) (i : StationNo) (h : Holder) : DriveWork s (s.afterReturn i h) := by
  unfold State.afterReturn
  split
  · exact .refl s
  · split
    · exact s.beginHoldoff_work i
    · exact .lists s s.holders _ s.holdoffs s.nextGrant
    · exact s.joinBack_work i _
    · exact s.joinBack_work i _

theorem State.returnGrant_work (s : State) (i : StationNo) : DriveWork s (s.returnGrant i) := by
  unfold State.returnGrant
  split
  · exact .refl s
  · exact ((s.dropHolder_work i).trans (State.afterReturn_work _ i _)).trans (State.arbiterTest_work _)

theorem stopSurplus_work (n : Nat) (s : State) : DriveWork s (stopSurplus n s) := by
  induction n generalizing s with
  | zero => exact .refl s
  | succ n ih =>
    unfold stopSurplus
    split
    · exact (s.stopHolder_work _ _).trans (ih _)
    · exact .refl s

theorem State.takeUpLimit_work (s : State) : DriveWork s s.takeUpLimit :=
  (stopSurplus_work _ s).trans (State.arbiterTest_work _)

theorem stopHolders_work (hs : List Holder) (s : State) : DriveWork s (stopHolders hs s) := by
  induction hs generalizing s with
  | nil => exact .refl s
  | cons h hs ih =>
    unfold stopHolders
    split
    · exact (s.stopHolder_work _ _).trans (ih _)
    · exact ih s

theorem State.endHoldoff_work (s : State) (i : StationNo) : DriveWork s (s.endHoldoff i) :=
  ((DriveWork.lists s s.holders s.queue _ s.nextGrant).trans (State.joinBack_work _ i 2)).trans (State.arbiterTest_work _)

theorem State.testBrake_work (s : State) (i : StationNo) (b : Brake) : DriveWork s (s.testBrake i b) := by
  unfold State.testBrake
  split
  · unfold State.beginDriving
    split
    · exact .modPort s i _ fun _ => rfl
    · exact .refl s
  · exact .modPort s i _ (Port.brakeAppliedDriving_sansDrive _)
  · exact (DriveWork.modPort s i _ Port.endHandshake_sansDrive).trans (State.returnGrant_work _ i)
  all_goals exact .refl s

/-- R63: a command set made due is no more than drive work. -/
theorem State.sendDue_work (s : State) (i : StationNo) (b : Bool) : DriveWork s (s.modPort i fun p => { p with sendDue := b }) :=
  .modPort s i _ fun _ => rfl

end Sys2Proof.Machine
end

