-- ==== Sys2Proof/Laws/Memory.lean ====
section
/-! SUPPORT. The laws of the profile memory: every store keeps the canonical form, a read after a store gives the byte stored, and
every other address reads as before. -/

namespace Sys2Proof.Machine

theorem memoryFormFrom_mono {low high : Nat} {mem : List Host.Cell} (h : memoryFormFrom high mem = true) (hl : low ≤ high) :
    memoryFormFrom low mem = true := by
  cases mem with
  | nil => rfl
  | cons c rest =>
    obtain ⟨a, b⟩ := c
    simp only [memoryFormFrom, Bool.and_eq_true, decide_eq_true_eq] at h ⊢
    exact ⟨⟨⟨by omega, h.1.1.2⟩, h.1.2⟩, h.2⟩

theorem cellAt_below {low n : Nat} {mem : List Host.Cell} (h : memoryFormFrom low mem = true) (hn : n < low) :
    cellAt mem n = Config.blankByte := by
  induction mem generalizing low with
  | nil => rfl
  | cons c rest ih =>
    obtain ⟨a, b⟩ := c
    simp only [memoryFormFrom, Bool.and_eq_true, decide_eq_true_eq] at h
    have : a ≠ n := by omega
    simp [cellAt, this, ih h.2 (by omega)]

theorem storeCell_form {low n : Nat} {mem : List Host.Cell} (v : Byte) (h : memoryFormFrom low mem = true) (hl : low ≤ n)
    (hn : n < memorySize) : memoryFormFrom low (storeCell mem n v) = true := by
  induction mem generalizing low with
  | nil =>
    simp only [storeCell]
    split
    · rfl
    · simp [memoryFormFrom, *]
  | cons c rest ih =>
    obtain ⟨a, b⟩ := c
    simp only [memoryFormFrom, Bool.and_eq_true, decide_eq_true_eq] at h
    obtain ⟨⟨⟨h1, h2⟩, h3⟩, h4⟩ := h
    simp only [storeCell]
    split
    · simp [memoryFormFrom, h1, h2, h3, ih h4 (by omega)]
    · split
      · subst n
        split
        · exact memoryFormFrom_mono h4 (by omega)
        · simp [memoryFormFrom, *]
      · have : n + 1 ≤ a := by omega
        split
        · simp [memoryFormFrom, h1, h2, h3, h4]
        · simp [memoryFormFrom, *]

theorem cellAt_storeCell {low n : Nat} {mem : List Host.Cell} (v : Byte) (m : Nat) (h : memoryFormFrom low mem = true) :
    cellAt (storeCell mem n v) m = if m = n then v else cellAt mem m := by
  induction mem generalizing low with
  | nil =>
    by_cases hm : m = n
    · simp only [storeCell]; split <;> simp_all [cellAt]
    · simp only [storeCell]; split <;> simp [cellAt, Ne.symm hm]
  | cons c rest ih =>
    obtain ⟨a, b⟩ := c
    simp only [memoryFormFrom, Bool.and_eq_true, decide_eq_true_eq] at h
    obtain ⟨⟨⟨h1, h2⟩, h3⟩, h4⟩ := h
    have below : ∀ k, k ≤ a → cellAt rest k = Config.blankByte := fun k hk => cellAt_below h4 (by omega)
    simp only [storeCell]
    split
    · by_cases ha : a = m
      · subst ha; simp [cellAt, show a ≠ n by omega]
      · simp [cellAt, ha, ih h4]
    · by_cases hm : m = n
      · subst hm
        split
        · subst a; split
          · simp_all
          · simp [cellAt]
        · split
          · rename_i hv; simp [cellAt, *, below m (by omega)]
          · simp [cellAt]
      · simp only [hm, if_false]
        split
        · subst a; split <;> simp [cellAt, Ne.symm hm]
        · split <;> simp [cellAt, Ne.symm hm]

/-- A store keeps the canonical form. -/
theorem writeCell_wf {mem : List Host.Cell} (c : Host.Cell) (h : Memory.wf mem = true) : Memory.wf (writeCell mem c) = true := by
  unfold writeCell
  split
  · exact storeCell_form c.2 h (Nat.zero_le _) ‹_›
  · exact h

/-- What any address reads after a store: the byte stored at its own address, and else as before. -/
theorem cellAt_writeCell {mem : List Host.Cell} (c : Host.Cell) (m : Nat) (h : Memory.wf mem = true) :
    cellAt (writeCell mem c) m = if m = c.1 ∧ c.1 < memorySize then c.2 else cellAt mem m := by
  unfold writeCell
  split
  · rw [cellAt_storeCell c.2 m h]; simp [*]
  · simp [*]

/-- Stores one after another keep the canonical form. -/
theorem writeCells_wf {mem : List Host.Cell} (cells : List Host.Cell) (h : Memory.wf mem = true) :
    Memory.wf (writeCells mem cells) = true := by
  induction cells generalizing mem with
  | nil => exact h
  | cons c rest ih => exact ih (writeCell_wf c h)

/-- An address that no store touches reads as before. -/
theorem cellAt_writeCells_of_not_mem {mem : List Host.Cell} {cells : List Host.Cell} {m : Nat} (h : Memory.wf mem = true)
    (hm : ∀ c ∈ cells, c.1 ≠ m) : cellAt (writeCells mem cells) m = cellAt mem m := by
  induction cells generalizing mem with
  | nil => rfl
  | cons c rest ih =>
    have hc : m ≠ c.1 := (hm c (by simp)).symm
    have step : writeCells mem (c :: rest) = writeCells (writeCell mem c) rest := rfl
    rw [step, ih (writeCell_wf c h) fun d hd => hm d (by simp [hd]), cellAt_writeCell c m h]
    simp [hc]

/-- A save's stores keep the canonical form, whichever cells turn out faulty. -/
theorem savedMemory_wf {mem : List Host.Cell} (entries : List ProfileEntry) (faulty : List Host.Cell)
    (h : Memory.wf mem = true) : Memory.wf (savedMemory mem entries faulty) = true :=
  writeCells_wf _ (writeCells_wf _ h)

/-- The memory right after reset is in canonical form. -/
theorem reset_memory_wf : Memory.wf State.reset.memory = true := rfl

end Sys2Proof.Machine
end

