-- ==== Sys2Proof/Laws/Sequencer.lean ====
section
/-! SUPPORT. What the Sequencer's shared operations can do: a change of state (R27), the end of an operation (R29, R30), the state
notice to the Berth Plan Unit (R5, R6, R17), entry to FAULTED (R48), the beginning of reconstruction (R53). -/

namespace Sys2Proof.Machine

/-! ### Work on one station -/

/-- From `s` to `t` the part has worked on station `i`: the berth, the links, the quick release and the surge timer are as they
were, and so is every other station but for its port's commands. -/
structure OnlyStation (i : StationNo) (s t : State) : Prop where
  berth : SameBerth s t
  watch : SameWatch s t
  links : SameLinks s t
  others : OthersKept i s t

theorem SameBerth.trans {s t u : State} (h : SameBerth s t) (h' : SameBerth t u) : SameBerth s u :=
  ⟨h'.1.trans h.1, h'.2.trans h.2, h'.3.trans h.3, h'.4.trans h.4, h'.5.trans h.5, h'.6.trans h.6, h'.7.trans h.7,
    h'.8.trans h.8, h'.9.trans h.9, h'.10.trans h.10⟩

theorem SameSensed.trans {p q r : Port} (h : SameSensed p q) (h' : SameSensed q r) : SameSensed p r :=
  ⟨h'.1.trans h.1, h'.2.trans h.2, h'.3.trans h.3, h'.4.trans h.4, h'.5.trans h.5⟩

theorem SameWatch.trans {s t u : State} (h : SameWatch s t) (h' : SameWatch t u) : SameWatch s u :=
  ⟨h'.1.trans h.1, h'.2.trans h.2, h'.3.trans h.3⟩

theorem SameLinks.trans {s t u : State} (h : SameLinks s t) (h' : SameLinks t u) : SameLinks s u :=
  ⟨h'.1.trans h.1, h'.2.trans h.2⟩

theorem OthersKept.trans {i : StationNo} {s t u : State} (h : OthersKept i s t) (h' : OthersKept i t u) : OthersKept i s u :=
  fun j hj => ⟨(h' j hj).1.trans (h j hj).1, (h' j hj).2.1.trans (h j hj).2.1, (h j hj).2.2.trans (h' j hj).2.2⟩

theorem OnlyStation.trans {i : StationNo} {s t u : State} (h : OnlyStation i s t) (h' : OnlyStation i t u) :
    OnlyStation i s u := ⟨h.1.trans h'.1, h.2.trans h'.2, h.3.trans h'.3, h.4.trans h'.4⟩

theorem DriveWork.onlyStation {s t : State} (h : DriveWork s t) (i : StationNo) : OnlyStation i s t :=
  ⟨h.sameBerth, h.sameWatch, h.sameLinks, h.othersKept i⟩

theorem OnlyStation.refl (i : StationNo) (s : State) : OnlyStation i s s := (DriveWork.refl s).onlyStation i

theorem OnlyStation.modSt (s : State) (i : StationNo) (f : Station → Station) : OnlyStation i s (s.modSt i f) where
  berth := ⟨rfl, rfl, rfl, rfl, rfl, rfl, rfl, rfl, rfl, rfl⟩
  watch := ⟨rfl, rfl, rfl⟩
  links := ⟨rfl, rfl⟩
  others := fun j hj => by
    rw [State.st_modSt_ne s f hj]
    exact ⟨rfl, rfl, rfl, rfl, rfl, rfl, rfl⟩

theorem OnlyStation.raise (i : StationNo) (s : State) (k : AlertKind) (x : Subject) (d : Nat) :
    OnlyStation i s (s.raise k x d) :=
  ⟨⟨rfl, rfl, rfl, rfl, rfl, rfl, rfl, rfl, rfl, rfl⟩, ⟨rfl, rfl, rfl⟩, ⟨rfl, rfl⟩, fun _ _ => ⟨rfl, rfl, rfl, rfl, rfl, rfl, rfl⟩⟩

/-! ### The notice to the Berth Plan Unit -/

/-- The part less what the Berth Plan Unit changes by itself. -/
def State.sansPlan (s : State) : State :=
  { s with phase := .starting, shortFlags := Vector.replicate 6 false, mailboxes := ⟨.empty, .empty, .empty⟩ }

/-- From `s` to `t` the Berth Plan Unit has worked: the phase, the short flags and the alerts PHASE and PLAN_SHORT. -/
structure PlanWork (s t : State) : Prop where
  same : t.sansPlan = s.sansPlan
  alerts : Raised s t [] [.phase, .planShort]

theorem PlanWork.refl (s : State) : PlanWork s s := ⟨rfl, .of_mailboxes rfl⟩

theorem PlanWork.params {s t : State} (h : PlanWork s t) : t.params = s.params := (congrArg State.params h.same :)

theorem PlanWork.trans {s t u : State} (h : PlanWork s t) (h' : PlanWork t u) : PlanWork s u :=
  ⟨h'.same.trans h.same, by simpa using h.alerts.trans h.params h'.alerts⟩

theorem PlanWork.st {s t : State} (h : PlanWork s t) (i : StationNo) : t.st i = s.st i := by
  have : t.stations = s.stations := (congrArg State.stations h.same :)
  simp [State.st, this]

theorem PlanWork.holders {s t : State} (h : PlanWork s t) : t.holders = s.holders := (congrArg State.holders h.same :)
theorem PlanWork.queue {s t : State} (h : PlanWork s t) : t.queue = s.queue := (congrArg State.queue h.same :)
theorem PlanWork.holdoffs {s t : State} (h : PlanWork s t) : t.holdoffs = s.holdoffs := (congrArg State.holdoffs h.same :)

theorem PlanWork.onlyStation {s t : State} (h : PlanWork s t) (i : StationNo) : OnlyStation i s t where
  berth := ⟨h.params, (congrArg State.localControl h.same :), (congrArg State.profile h.same :), (congrArg State.saving h.same :),
    (congrArg State.reload h.same :), (congrArg State.memory h.same :), (congrArg State.pending h.same :), (congrArg State.underWay h.same :),
    (congrArg State.releaseLine h.same :), (congrArg State.quayStop h.same :)⟩
  watch := ⟨(congrArg State.eqr h.same :), (congrArg State.eqrTimer h.same :), (congrArg State.surgeTimer h.same :)⟩
  links := ⟨(congrArg State.links h.same :), (congrArg State.nextLink h.same :)⟩
  others := fun j _ => by rw [h.st j]; exact ⟨rfl, rfl, rfl, rfl, rfl, rfl, rfl⟩

/-- R2: a phase entered. -/
theorem State.enterPhase_work (s : State) (p : Phase) : PlanWork s (s.enterPhase p) := by
  unfold State.enterPhase
  split
  · exact .refl s
  · exact ⟨rfl, (Raised.hidden _ ⟨.phase, .berth, p.code⟩ none (k := [.phase, .planShort]) (by simp)).from_congr rfl rfl⟩

theorem State.evaluateMoored_work (s : State) : PlanWork s s.evaluateMoored := by
  unfold State.evaluateMoored
  split
  · exact s.enterPhase_work _
  · exact .refl s

theorem State.evaluateVacant_work (s : State) : PlanWork s s.evaluateVacant := by
  unfold State.evaluateVacant
  split
  · exact s.enterPhase_work _
  · exact .refl s

theorem State.planFall_work (s : State) (g : GroupNo) : PlanWork s (s.planFall g) := by
  unfold State.planFall
  split
  · exact ⟨rfl, (Raised.hidden _ ⟨.planShort, .group g, s.holdingCount g⟩ none (k := [.phase, .planShort]) (by simp)).from_congr
      rfl rfl⟩
  · exact .refl s

theorem State.planRise_work (s : State) (g : GroupNo) : PlanWork s (s.planRise g) := by
  unfold State.planRise
  split
  · exact ⟨rfl, .of_mailboxes rfl⟩
  · exact .refl s

/-- R16, R24: a state notice. -/
theorem State.notice_work (s : State) (i : StationNo) (h e : Bool) : PlanWork s (s.notice i h e) := by
  unfold State.notice
  split
  · split
    · exact s.evaluateMoored_work
    · exact .refl s
  · unfold State.noticeMoored
    split
    · exact .refl s
    · split
      · exact s.planFall_work _
      · exact s.planRise_work _
      · exact .refl s
      · exact .refl s
  · split
    · exact s.evaluateVacant_work
    · exact .refl s
  all_goals exact .refl s

theorem State.noticeFrom_work (s b : State) (i : StationNo) : PlanWork s (s.noticeFrom b i) := s.notice_work i _ _

theorem State.latchNotice_work (s : State) (i : StationNo) (b : Station) : PlanWork s (s.latchNotice i b) := by
  unfold State.latchNotice
  split
  · exact s.notice_work i _ _
  · exact .refl s

/-! ### A change of state -/

/-- R27: the part after a change of state, but for the drive work that follows it. -/
theorem State.enterState_work (s : State) (i : StationNo) (state : LineState) (tending : Option Tending) :
    DriveWork (s.modSt i (Station.enter state tending)) (s.enterState i state tending) := by
  unfold State.enterState
  simp only
  split
  · exact .refl _
  · exact State.requestGrant_work _ i _
  · exact State.withdraw_work _ i
  · exact (DriveWork.modPort _ i _ (Port.steer_sansDrive _ _)).trans (State.reclass_work _ i _)

theorem State.enterState_record (s : State) (i : StationNo) (state : LineState) (tending : Option Tending) :
    ((s.enterState i state tending).st i).record = { (s.st i).record with state := state, tending := tending } := by
  rw [(s.enterState_work i state tending).record i]
  simp [Station.enter]

theorem State.enterState_tension (s : State) (i : StationNo) (state : LineState) (tending : Option Tending) :
    ((s.enterState i state tending).st i).tension =
      if state = .held then { (s.st i).tension with hi := 0, lo := 0 } else (s.st i).tension := by
  rw [(s.enterState_work i state tending).tension i]
  simp [Station.enter]

theorem State.enterState_onlyStation (s : State) (i : StationNo) (state : LineState) (tending : Option Tending) :
    OnlyStation i s (s.enterState i state tending) :=
  (OnlyStation.modSt s i _).trans ((s.enterState_work i state tending).onlyStation i)

theorem State.enterState_phase (s : State) (i : StationNo) (state : LineState) (tending : Option Tending) :
    (s.enterState i state tending).phase = s.phase := (s.enterState_work i state tending).phase

theorem State.enterState_raised (s : State) (i : StationNo) (state : LineState) (tending : Option Tending) :
    Raised s (s.enterState i state tending) [] [.preempted] :=
  (s.enterState_work i state tending).alerts.from_congr rfl rfl

/-! ### The latch and the timers -/

theorem State.commandLatch_onlyStation (s : State) (i : StationNo) (c : LatchCommand) : OnlyStation i s (s.commandLatch i c) :=
  OnlyStation.modSt s i _

/-- R26, R36, R38: the record of a station that enters RELEASING. -/
theorem State.enterReleasing_record (s : State) (i : StationNo) :
    ((s.enterReleasing i).st i).record =
      { (s.st i).record with
        state := .releasing, tending := none, latchCommand := .open, seatTimer := none,
        latchOpenTimer := some s.berth.latchOpenTimeout } := by
  unfold State.enterReleasing
  rw [State.enterState_record, State.st_modRecord_same]
  simp [State.st_commandLatch]

theorem State.enterReleasing_onlyStation (s : State) (i : StationNo) : OnlyStation i s (s.enterReleasing i) :=
  ((s.commandLatch_onlyStation i _).trans (.modSt _ i _)).trans (State.enterState_onlyStation _ i _ _)

theorem State.enterReleasing_tension (s : State) (i : StationNo) : ((s.enterReleasing i).st i).tension = (s.st i).tension := by
  unfold State.enterReleasing
  rw [State.enterState_tension, State.st_modRecord_same]
  simp [State.st_commandLatch]

theorem State.enterReleasing_raised (s : State) (i : StationNo) : Raised s (s.enterReleasing i) [] [.preempted] :=
  (State.enterState_raised _ i _ _).from_congr rfl rfl

/-! ### The end of an operation -/

/-- The alert by which the operation in flight on a station ends (R30). -/
def State.endedAlert (s : State) (i : StationNo) (failure : Option FailReason) : List (Alert × Option Master) :=
  match (s.st i).record.operation, failure with
  | none, _ => []
  | some op, none => [(⟨.opDone, .station i, op.code⟩, (s.st i).record.owner)]
  | some _, some why => [(⟨.opFailed, .station i, why.code⟩, (s.st i).record.owner)]

theorem State.endOperation_record (s : State) (i : StationNo) (failure : Option FailReason) :
    ((s.endOperation i failure).st i).record =
      if (s.st i).record.operation.isSome then (s.st i).record.clearOperation else (s.st i).record := by
  unfold State.endOperation
  cases h : (s.st i).record.operation with
  | none => simp
  | some op => cases failure <;> simp [State.raiseOwned]

theorem State.endOperation_st (s : State) (i : StationNo) (failure : Option FailReason) :
    (s.endOperation i failure).st i = { s.st i with record := ((s.endOperation i failure).st i).record } := by
  unfold State.endOperation
  cases h : (s.st i).record.operation with
  | none => rfl
  | some op => cases failure <;> simp

theorem State.endOperation_onlyStation (s : State) (i : StationNo) (failure : Option FailReason) :
    OnlyStation i s (s.endOperation i failure) := by
  unfold State.endOperation
  split
  · exact .refl i s
  · have h := OnlyStation.modSt s i fun st => { st with record := st.record.clearOperation }
    cases failure <;>
      exact ⟨⟨rfl, rfl, rfl, rfl, rfl, rfl, rfl, rfl, rfl, rfl⟩, ⟨rfl, rfl, rfl⟩, ⟨rfl, rfl⟩, fun j hj => h.4 j hj⟩

theorem State.endOperation_phase (s : State) (i : StationNo) (failure : Option FailReason) :
    (s.endOperation i failure).phase = s.phase := by
  unfold State.endOperation
  split
  · rfl
  · cases failure <;> rfl

/-- R30, R147: the end of an operation raises its own alert and no other. -/
theorem State.endOperation_raised (s : State) (i : StationNo) (failure : Option FailReason) {k : List AlertKind}
    (h : AlertKind.opDone ∉ k) (h' : AlertKind.opFailed ∉ k) :
    Raised s (s.endOperation i failure) (s.endedAlert i failure) k := by
  unfold State.endOperation State.endedAlert
  cases (s.st i).record.operation with
  | none => exact .of_mailboxes rfl
  | some op =>
    cases failure with
    | none => exact (Raised.one (s.modRecord i Record.clearOperation) ⟨.opDone, .station i, op.code⟩ _ h).from_congr rfl rfl
    | some why => exact (Raised.one (s.modRecord i Record.clearOperation) ⟨.opFailed, .station i, why.code⟩ _ h').from_congr rfl rfl

/-- The Arbiter's lists are no matter of an operation's end. -/
theorem State.endOperation_lists (s : State) (i : StationNo) (failure : Option FailReason) :
    (s.endOperation i failure).holders = s.holders ∧ (s.endOperation i failure).queue = s.queue
      ∧ (s.endOperation i failure).holdoffs = s.holdoffs := by
  unfold State.endOperation
  split
  · exact ⟨rfl, rfl, rfl⟩
  · cases failure <;> exact ⟨rfl, rfl, rfl⟩

/-- R29: the record of a station that starts an operation. -/
theorem State.startOperation_record (s : State) (i : StationNo) (op : Operation) (m : Master) (target : Option Nat) :
    ((s.startOperation i op m target).st i).record =
      { (s.st i).record with operation := some op, owner := some m, runOutTarget := target } := by
  unfold State.startOperation
  rw [State.st_modRecord_same, State.endOperation_record]
  split <;> rfl

theorem State.startOperation_onlyStation (s : State) (i : StationNo) (op : Operation) (m : Master) (target : Option Nat) :
    OnlyStation i s (s.startOperation i op m target) := by
  unfold State.startOperation State.modRecord
  exact (s.endOperation_onlyStation i (some .cancelled)).trans (OnlyStation.modSt _ i _)

theorem State.startOperation_raised (s : State) (i : StationNo) (op : Operation) (m : Master) (target : Option Nat)
    {k : List AlertKind} (h : AlertKind.opDone ∉ k) (h' : AlertKind.opFailed ∉ k) :
    Raised s (s.startOperation i op m target) (s.failedAlert i .cancelled) k := by
  have e : s.failedAlert i .cancelled = s.endedAlert i (some .cancelled) := by
    unfold State.failedAlert State.endedAlert
    cases (s.st i).record.operation <;> rfl
  rw [e]
  exact (s.endOperation_raised i _ h h').to_congr rfl

/-! ### A station that stands nowhere with the Arbiter -/

/-- Station `i` is neither a holder nor queued nor in holdoff. -/
structure Absent (i : StationNo) (s : State) : Prop where
  holders : ∀ h ∈ s.holders, h.station ≠ i
  queue : ∀ e ∈ s.queue, e.station ≠ i
  holdoffs : ∀ h ∈ s.holdoffs, h.station ≠ i

/-- R118: the drive status of such a station is IDLE, and the other way about. -/
theorem driveStatus_idle_iff (s : State) (i : StationNo) : s.driveStatus i = .idle ↔ Absent i s := by
  unfold State.driveStatus State.holderOf State.queuedAs State.inHoldoff
  constructor
  · intro h
    split at h
    · cases h
    · rename_i hh
      split at h
      · cases h
      · rename_i hq
        split at h
        · cases h
        · rename_i ho
          simp only [List.find?_eq_none, decide_eq_true_eq] at hh hq
          simp only [List.any_eq_true, decide_eq_true_eq, not_exists, not_and] at ho
          exact ⟨hh, hq, ho⟩
  · intro ⟨hh, hq, ho⟩
    have h1 : (s.holders.find? fun h => decide (h.station = i)) = none := by simpa using hh
    have h2 : (s.queue.find? fun e => decide (e.station = i)) = none := by simpa using hq
    have h3 : (s.holdoffs.any fun h => decide (h.station = i)) = false := by simpa using ho
    simp [h1, h2, h3]

/-- The Arbiter's tests leave alone a station that stands nowhere with it. -/
theorem State.grantHead_absent {i : StationNo} {s : State} (h : Absent i s) :
    Absent i s.grantHead ∧ s.grantHead.st i = s.st i := by
  unfold State.grantHead
  split
  · exact ⟨h, rfl⟩
  · rename_i e rest hq
    have he : e.station ≠ i := h.queue e (by simp [hq])
    refine ⟨⟨?_, ?_, h.holdoffs⟩, ?_⟩
    · intro x hx
      simp only [State.modPort_holders, List.mem_append, List.mem_singleton] at hx
      rcases hx with hx | rfl
      · exact h.holders x hx
      · exact he
    · intro x hx
      exact h.queue x (by simp only [State.modPort_queue] at hx; simp [hq, hx])
    · rw [State.st_modPort_ne _ _ (Ne.symm he)]
      rfl

theorem giveGrants_absent {i : StationNo} (n : Nat) {s : State} (h : Absent i s) :
    Absent i (giveGrants n s) ∧ (giveGrants n s).st i = s.st i := by
  induction n generalizing s with
  | zero => exact ⟨h, rfl⟩
  | succ n ih =>
    unfold giveGrants
    split
    · have h1 := State.grantHead_absent h
      have h2 := ih h1.1
      exact ⟨h2.1, h2.2.trans h1.2⟩
    · exact ⟨h, rfl⟩

theorem markReturning_station (i : StationNo) (a : AfterReturn) (h : Holder) : (markReturning i a h).station = h.station := by
  unfold markReturning; split <;> rfl

theorem State.stopHolder_absent {i j : StationNo} {s : State} (h : Absent i s) (hj : j ≠ i) (a : AfterReturn) :
    Absent i (s.stopHolder j a) ∧ (s.stopHolder j a).st i = s.st i := by
  unfold State.stopHolder
  refine ⟨⟨?_, h.queue, h.holdoffs⟩, ?_⟩
  · intro x hx
    simp only [State.modPort_holders, List.mem_map] at hx
    obtain ⟨y, hy, rfl⟩ := hx
    rw [markReturning_station]
    exact h.holders y hy
  · rw [State.st_modPort_ne _ _ (Ne.symm hj)]
    rfl

theorem latestGranted_mem {hs : List Holder} {h : Holder} (e : latestGranted hs = some h) : h ∈ hs := by
  have key : ∀ (l : List Holder) (b : Option Holder), l.foldl laterGranted b = some h → h ∈ l ∨ b = some h := by
    intro l
    induction l with
    | nil => intro b hb; exact .inr hb
    | cons x xs ih =>
      intro b hb
      rcases ih _ hb with h1 | h1
      · exact .inl (List.mem_cons_of_mem _ h1)
      · unfold laterGranted at h1
        split at h1
        · cases h1; exact .inl (List.mem_cons_self ..)
        · split at h1
          · cases h1; exact .inl (List.mem_cons_self ..)
          · cases h1; exact .inr rfl
  rcases key hs none e with h1 | h1
  · exact h1
  · cases h1

theorem State.preemptOne_absent {i : StationNo} {s t : State} (h : Absent i s) (e : s.preemptOne = some t) :
    Absent i t ∧ t.st i = s.st i := by
  unfold State.preemptOne at e
  split at e
  · rename_i v w _ hv _
    cases e
    have hm : v ∈ s.holders := (List.mem_filter.mp (latestGranted_mem hv)).1
    have := State.stopHolder_absent h (h.holders v hm) .preempted
    exact ⟨⟨this.1.1, this.1.2, this.1.3⟩, this.2⟩
  · cases e

theorem givePreemptions_absent {i : StationNo} (n : Nat) {s : State} (h : Absent i s) :
    Absent i (givePreemptions n s) ∧ (givePreemptions n s).st i = s.st i := by
  induction n generalizing s with
  | zero => exact ⟨h, rfl⟩
  | succ n ih =>
    unfold givePreemptions
    split
    · rename_i t ht
      have h1 := State.preemptOne_absent h ht
      have h2 := ih h1.1
      exact ⟨h2.1, h2.2.trans h1.2⟩
    · exact ⟨h, rfl⟩

/-- The Arbiter's tests leave alone a station that stands nowhere with it. -/
theorem State.arbiterTest_absent {i : StationNo} {s : State} (h : Absent i s) :
    Absent i s.arbiterTest ∧ s.arbiterTest.st i = s.st i := by
  have h1 := giveGrants_absent s.queue.length h
  have h2 := givePreemptions_absent (giveGrants s.queue.length s).holders.length h1.1
  exact ⟨h2.1, h2.2.trans h1.2⟩

/-- R110, R111: after a removal at once the station stands nowhere, and itself is as it was. -/
theorem State.removeAtOnce_absent (s : State) (i : StationNo) :
    Absent i (s.removeAtOnce i) ∧ (s.removeAtOnce i).st i = s.st i := by
  unfold State.removeAtOnce
  split
  · have h : Absent i ((s.dropHolder i).dequeue i) := by
      refine ⟨?_, ?_, ?_⟩ <;> intro x hx <;>
        simp [State.dequeue, State.dropHolder, withoutStation, List.mem_filter] at hx <;> exact hx.2
    exact State.arbiterTest_absent h
  · rename_i hh
    refine ⟨⟨?_, ?_, ?_⟩, rfl⟩
    · unfold State.holderOf at hh
      simpa [State.dequeue] using hh
    · intro x hx
      simp [State.dequeue, withoutStation, List.mem_filter] at hx
      exact hx.2
    · intro x hx
      simp [State.dequeue, List.mem_filter] at hx
      exact hx.2

/-! ### Entry to FAULTED -/

/-- R48, R69: the station after entry to FAULTED. -/
theorem State.enterFaulted_st (s : State) (i : StationNo) (cause : FaultCause) :
    (s.enterFaulted i cause).st i =
      { s.st i with
        record :=
          { (if (s.st i).record.operation.isSome then (s.st i).record.clearOperation else (s.st i).record) with
            seatTimer := none, latchOpenTimer := none, state := .faulted, recon := none, tending := none,
            faultCause := some cause, faultCount := min 255 ((s.st i).record.faultCount + 1) }
        port := { (s.st i).port.makeSafe s.berth.brakeTimeout with reportSinceFault := false, sendDue := true } } := by
  unfold State.enterFaulted
  simp only [(State.noticeFrom_work _ s i).st i, State.st_raise, State.st_modRecord_same]
  rw [State.endOperation_st, State.endOperation_record, State.st_modRecord_same, (State.removeAtOnce_absent _ i).2]
  unfold State.portSafe
  simp only [State.st_modPort_same, Record.stopTimers]
  split <;> rfl

/-- R48, R118: after entry to FAULTED the station stands nowhere with the Arbiter. -/
theorem State.enterFaulted_absent (s : State) (i : StationNo) (cause : FaultCause) : Absent i (s.enterFaulted i cause) := by
  unfold State.enterFaulted
  have w := State.noticeFrom_work
    (((((((s.portSafe i).modPort i fun p => { p with reportSinceFault := false, sendDue := true }).removeAtOnce i).modRecord i
      Record.stopTimers).endOperation i (some .fault)).modRecord i fun r =>
        { r with
          state := .faulted, recon := none, tending := none, faultCause := some cause,
          faultCount := min 255 (r.faultCount + 1) }).raise .fault (.station i) cause.code) s i
  have a := (State.removeAtOnce_absent
    ((s.portSafe i).modPort i fun p => { p with reportSinceFault := false, sendDue := true }) i).1
  have l := State.endOperation_lists
    ((((s.portSafe i).modPort i fun p => { p with reportSinceFault := false, sendDue := true }).removeAtOnce i).modRecord i
      Record.stopTimers) i (some .fault)
  refine ⟨?_, ?_, ?_⟩
  · rw [w.holders, State.raise_holders, State.modRecord_holders, l.1]
    exact a.holders
  · rw [w.queue, State.raise_queue, State.modRecord_queue, l.2.1]
    exact a.queue
  · rw [w.holdoffs, State.raise_holdoffs, State.modRecord_holdoffs, l.2.2]
    exact a.holdoffs

/-- R29: a record of which an operation in flight ends. -/
theorem Record.ended_eq (r : Record) : r.ended = if r.operation.isSome then r.clearOperation else r := by
  unfold Record.ended Record.clearOperation
  cases r.operation <;> rfl

/-- R69: a port made safe is at rest. -/
theorem Port.makeSafe_atRest (timeout : Nat) (p : Port) : (p.makeSafe timeout).AtRest := ⟨rfl, rfl, rfl, rfl⟩

/-- R69, R74: what making a port safe does to its brake timer. -/
theorem Port.makeSafe_brake (timeout : Nat) (p : Port) : BrakeMadeSafe timeout p (p.makeSafe timeout) := by
  constructor <;> intro hb <;> cases ht : p.brakeTimer <;> simp_all [Port.makeSafe, BrakeTimer.isStep]

/-- R48: entry to FAULTED has the effects `Faulted` names. -/
theorem State.enterFaulted_faulted (s : State) (i : StationNo) (cause : FaultCause) :
    Faulted s (s.enterFaulted i cause) i cause (s.st i).record.payoutLength := by
  have h := s.enterFaulted_st i cause
  refine ⟨?_, ?_, by rw [h], (driveStatus_idle_iff _ i).mpr (s.enterFaulted_absent i cause)⟩
  · rw [h, Record.ended_eq]
    split <;> rfl
  · rw [h]
    exact ⟨rfl, rfl, rfl, rfl⟩

/-- R69: entry to FAULTED makes the port's brake safe. -/
theorem State.enterFaulted_brake (s : State) (i : StationNo) (cause : FaultCause) :
    BrakeMadeSafe s.berth.brakeTimeout (s.st i).port ((s.enterFaulted i cause).st i).port := by
  have m := (s.st i).port.makeSafe_brake s.berth.brakeTimeout
  rw [s.enterFaulted_st i cause]
  exact ⟨m.freed, m.step, m.kept⟩

/-- R48: entry to FAULTED works on its own station. -/
theorem State.enterFaulted_onlyStation (s : State) (i : StationNo) (cause : FaultCause) :
    OnlyStation i s (s.enterFaulted i cause) := by
  unfold State.enterFaulted State.modRecord
  simp only
  refine OnlyStation.trans ?_ ((State.noticeFrom_work _ s i).onlyStation i)
  refine OnlyStation.trans ?_ (OnlyStation.raise i _ _ _ _)
  refine OnlyStation.trans ?_ (OnlyStation.modSt _ i _)
  refine OnlyStation.trans ?_ (State.endOperation_onlyStation _ i _)
  refine OnlyStation.trans ?_ (OnlyStation.modSt _ i _)
  refine OnlyStation.trans ?_ ((State.removeAtOnce_work _ i).onlyStation i)
  exact ((s.portSafe_work i).onlyStation i).trans (OnlyStation.modSt _ i _)

end Sys2Proof.Machine
end

