-- ==== Sys2Proof/Laws/Orders.lean ====
section
/-! SUPPORT. What the Order Unit's shared operations can do: taking an order, answering it, and placing one that is not taken (R121,
R155, R156). -/

namespace Sys2Proof.Machine

/-! ### The part as the Order Unit finds it -/

@[simp] theorem State.taken_phase (s : State) (m : Master) (o : Order) : (s.taken m o).phase = s.phase := rfl
@[simp] theorem State.taken_shortFlags (s : State) (m : Master) (o : Order) : (s.taken m o).shortFlags = s.shortFlags := rfl
@[simp] theorem State.taken_params (s : State) (m : Master) (o : Order) : (s.taken m o).params = s.params := rfl
@[simp] theorem State.taken_stations (s : State) (m : Master) (o : Order) : (s.taken m o).stations = s.stations := rfl
@[simp] theorem State.taken_surgeTimer (s : State) (m : Master) (o : Order) : (s.taken m o).surgeTimer = s.surgeTimer := rfl
@[simp] theorem State.taken_holders (s : State) (m : Master) (o : Order) : (s.taken m o).holders = s.holders := rfl
@[simp] theorem State.taken_queue (s : State) (m : Master) (o : Order) : (s.taken m o).queue = s.queue := rfl
@[simp] theorem State.taken_holdoffs (s : State) (m : Master) (o : Order) : (s.taken m o).holdoffs = s.holdoffs := rfl
@[simp] theorem State.taken_nextGrant (s : State) (m : Master) (o : Order) : (s.taken m o).nextGrant = s.nextGrant := rfl
@[simp] theorem State.taken_eqr (s : State) (m : Master) (o : Order) : (s.taken m o).eqr = s.eqr := rfl
@[simp] theorem State.taken_eqrTimer (s : State) (m : Master) (o : Order) : (s.taken m o).eqrTimer = s.eqrTimer := rfl
@[simp] theorem State.taken_releaseLine (s : State) (m : Master) (o : Order) : (s.taken m o).releaseLine = s.releaseLine := rfl
@[simp] theorem State.taken_quayStop (s : State) (m : Master) (o : Order) : (s.taken m o).quayStop = s.quayStop := rfl
@[simp] theorem State.taken_localControl (s : State) (m : Master) (o : Order) : (s.taken m o).localControl = s.localControl := rfl
@[simp] theorem State.taken_mailboxes (s : State) (m : Master) (o : Order) : (s.taken m o).mailboxes = s.mailboxes := rfl
@[simp] theorem State.taken_profile (s : State) (m : Master) (o : Order) : (s.taken m o).profile = s.profile := rfl
@[simp] theorem State.taken_saving (s : State) (m : Master) (o : Order) : (s.taken m o).saving = s.saving := rfl
@[simp] theorem State.taken_reload (s : State) (m : Master) (o : Order) : (s.taken m o).reload = s.reload := rfl
@[simp] theorem State.taken_underWay (s : State) (m : Master) (o : Order) : (s.taken m o).underWay = s.underWay := rfl
@[simp] theorem State.taken_memory (s : State) (m : Master) (o : Order) : (s.taken m o).memory = s.memory := rfl
@[simp] theorem State.taken_pending (s : State) (m : Master) (o : Order) : (s.taken m o).pending = s.pending := rfl
@[simp] theorem State.st_taken (s : State) (m : Master) (o : Order) (i : StationNo) : (s.taken m o).st i = s.st i := rfl

@[simp] theorem State.answer_phase (s : State) (m : Master) (o : Order) (r : Reply) : (s.answer m o r).phase = s.phase := rfl
@[simp] theorem State.answer_shortFlags (s : State) (m : Master) (o : Order) (r : Reply) : (s.answer m o r).shortFlags = s.shortFlags := rfl
@[simp] theorem State.answer_params (s : State) (m : Master) (o : Order) (r : Reply) : (s.answer m o r).params = s.params := rfl
@[simp] theorem State.answer_stations (s : State) (m : Master) (o : Order) (r : Reply) : (s.answer m o r).stations = s.stations := rfl
@[simp] theorem State.answer_surgeTimer (s : State) (m : Master) (o : Order) (r : Reply) : (s.answer m o r).surgeTimer = s.surgeTimer := rfl
@[simp] theorem State.answer_holders (s : State) (m : Master) (o : Order) (r : Reply) : (s.answer m o r).holders = s.holders := rfl
@[simp] theorem State.answer_queue (s : State) (m : Master) (o : Order) (r : Reply) : (s.answer m o r).queue = s.queue := rfl
@[simp] theorem State.answer_holdoffs (s : State) (m : Master) (o : Order) (r : Reply) : (s.answer m o r).holdoffs = s.holdoffs := rfl
@[simp] theorem State.answer_nextGrant (s : State) (m : Master) (o : Order) (r : Reply) : (s.answer m o r).nextGrant = s.nextGrant := rfl
@[simp] theorem State.answer_eqr (s : State) (m : Master) (o : Order) (r : Reply) : (s.answer m o r).eqr = s.eqr := rfl
@[simp] theorem State.answer_eqrTimer (s : State) (m : Master) (o : Order) (r : Reply) : (s.answer m o r).eqrTimer = s.eqrTimer := rfl
@[simp] theorem State.answer_releaseLine (s : State) (m : Master) (o : Order) (r : Reply) : (s.answer m o r).releaseLine = s.releaseLine := rfl
@[simp] theorem State.answer_quayStop (s : State) (m : Master) (o : Order) (r : Reply) : (s.answer m o r).quayStop = s.quayStop := rfl
@[simp] theorem State.answer_localControl (s : State) (m : Master) (o : Order) (r : Reply) : (s.answer m o r).localControl = s.localControl := rfl
@[simp] theorem State.answer_mailboxes (s : State) (m : Master) (o : Order) (r : Reply) : (s.answer m o r).mailboxes = s.mailboxes := rfl
@[simp] theorem State.answer_profile (s : State) (m : Master) (o : Order) (r : Reply) : (s.answer m o r).profile = s.profile := rfl
@[simp] theorem State.answer_saving (s : State) (m : Master) (o : Order) (r : Reply) : (s.answer m o r).saving = s.saving := rfl
@[simp] theorem State.answer_reload (s : State) (m : Master) (o : Order) (r : Reply) : (s.answer m o r).reload = s.reload := rfl
@[simp] theorem State.answer_underWay (s : State) (m : Master) (o : Order) (r : Reply) : (s.answer m o r).underWay = s.underWay := rfl
@[simp] theorem State.answer_memory (s : State) (m : Master) (o : Order) (r : Reply) : (s.answer m o r).memory = s.memory := rfl
@[simp] theorem State.answer_pending (s : State) (m : Master) (o : Order) (r : Reply) : (s.answer m o r).pending = s.pending := rfl
@[simp] theorem State.st_answer (s : State) (m : Master) (o : Order) (r : Reply) (i : StationNo) : (s.answer m o r).st i = s.st i := rfl

/-! The links' updates leave the configuration and the stations, so every check of R122 is made as before them. -/

@[simp] theorem State.taken_mayOrder (s : State) (m : Master) (o : Order) (n : Master) (i : StationNo) :
    (s.taken m o).mayOrder n i = s.mayOrder n i := rfl
@[simp] theorem State.taken_mayObserve (s : State) (m : Master) (o : Order) (n : Master) (i : StationNo) :
    (s.taken m o).mayObserve n i = s.mayObserve n i := rfl
@[simp] theorem State.taken_heldLocal (s : State) (m : Master) (o : Order) (n : Master) (i : StationNo) :
    (s.taken m o).heldLocal n i = s.heldLocal n i := rfl
@[simp] theorem State.taken_ownedByOther (s : State) (m : Master) (o : Order) (n : Master) (i : StationNo) :
    (s.taken m o).ownedByOther n i = s.ownedByOther n i := rfl
@[simp] theorem State.taken_operationRefused (s : State) (m : Master) (o : Order) (n : Master) (i : StationNo) :
    (s.taken m o).operationRefused n i = s.operationRefused n i := rfl
@[simp] theorem State.taken_tendRefused (s : State) (m : Master) (o : Order) (n : Master) (i : StationNo) :
    (s.taken m o).tendRefused n i = s.tendRefused n i := rfl
@[simp] theorem State.taken_observeRefused (s : State) (m : Master) (o : Order) (n : Master) (i : StationNo) :
    (s.taken m o).observeRefused n i = s.observeRefused n i := rfl
@[simp] theorem State.taken_refusedWhole (s : State) (m : Master) (o : Order) (c : OrderCode) (p : Order) :
    (s.taken m o).refusedWhole c p = s.refusedWhole c p := rfl
@[simp] theorem State.taken_releaseGate (s : State) (m : Master) (o : Order) (i : StationNo) :
    (s.taken m o).releaseGate i = s.releaseGate i := rfl
@[simp] theorem State.taken_band (s : State) (m : Master) (o : Order) (i : StationNo) : (s.taken m o).band i = s.band i := rfl
@[simp] theorem State.taken_berth (s : State) (m : Master) (o : Order) : (s.taken m o).berth = s.berth := rfl
@[simp] theorem State.taken_driveStatus (s : State) (m : Master) (o : Order) (i : StationNo) :
    (s.taken m o).driveStatus i = s.driveStatus i := rfl

/-- R122: steps 1 to 3 pass. -/
theorem State.refusedWhole_passes {s : State} {c : OrderCode} {o : Order} (h : s.phase ≠ .starting)
    (hf : formatGood c o = true) (ht : s.targetGood c.targetKind (targetOf o.target) = true) : s.refusedWhole c o = none := by
  simp [State.refusedWhole, h, hf, ht]

/-- R122: steps 4 to 6 pass. -/
theorem MayOperate.passes {s : State} {m : Master} {i : StationNo} (h : MayOperate s m i) : s.operationRefused m i = none := by
  simp [State.operationRefused, h.authority, h.control, h.owner]

/-! ### Taking an order -/

/-- R121, R155: an order row whose order is not taken leaves it in the waiting slot, or leaves the slot as it is. -/
theorem State.giveOrder_waits {s : State} {m : Master} {o : Order} (h : s.takesNow m o = false) (work : OrderWork) :
    s.giveOrder m o work = s.modLink m (Link.place o) := by
  unfold State.takesNow at h
  simp [State.giveOrder, h]

/-- R121, R155: an order row whose order is taken. -/
theorem State.giveOrder_taken {s : State} {m : Master} {o : Order} (h : s.takesNow m o = true) (work : OrderWork) :
    s.giveOrder m o work = (s.modLink m (Link.place o)).takeOrder m o work := by
  unfold State.takesNow at h
  simp [State.giveOrder, h]

/-- R121, R156: an order taken and answered. -/
theorem State.giveOrder_answered {s : State} {m : Master} {o : Order} (h : s.takesNow m o = true) {work : OrderWork} {u : State}
    {r : Reply} (hw : work m o (s.taken m o) = (u, some r)) : s.giveOrder m o work = (u.answer m o r).sendSets := by
  rw [State.giveOrder_taken h]
  unfold State.takeOrder
  unfold State.taken at hw
  simp only [hw]

/-- R121, R155, R156: the links after an order was taken and answered by work that leaves the links alone. -/
theorem Answered.of_work {s u : State} {m : Master} {o : Order} (h : SameLinks (s.taken m o) u) (r : Reply) :
    Answered s (u.answer m o r).sendSets m o r := by
  have hl : ∀ n, u.link n = (s.taken m o).link n := fun n => by simp [State.link, h.links]
  have ht : (s.taken m o).link m = { Link.place o (s.link m) with waiting := none } := by simp [State.taken, State.freeSlot, State.link, State.modLink]
  refine ⟨?_, ?_, ?_, ?_, ?_⟩
  · simp [State.answer, State.link, State.modLink]
  · have : ((u.answer m o r).sendSets).link m = { u.link m with sending := some (answerFrame o.code o.tag r) } := by
      simp [State.answer, State.link, State.modLink]
    rw [this, hl, ht]
  · have : ((u.answer m o r).sendSets).link m = { u.link m with sending := some (answerFrame o.code o.tag r) } := by
      simp [State.answer, State.link, State.modLink]
    rw [this, hl, ht]
    unfold Link.place
    split <;> rfl
  · exact h.nextLink.trans rfl
  · intro n hn
    have : ((u.answer m o r).sendSets).link n = u.link n := by simp [State.answer, State.link, State.modLink, hn]
    rw [this, hl]
    simp [State.taken, State.freeSlot, State.link, State.modLink, hn]

/-- The answer and the sets sent leave what work on one station leaves, counted from before the order was taken. -/
theorem SameBerth.of_work {s u : State} {m : Master} {o : Order} (h : SameBerth (s.taken m o) u) (r : Reply) :
    SameBerth s (u.answer m o r).sendSets :=
  ⟨by simpa using h.1, by simpa using h.2, by simpa using h.3, by simpa using h.4, by simpa using h.5, by simpa using h.6,
    by simpa using h.7, by simpa using h.8, by simpa using h.9, by simpa using h.10⟩

theorem SameWatch.of_work {s u : State} {m : Master} {o : Order} (h : SameWatch (s.taken m o) u) (r : Reply) :
    SameWatch s (u.answer m o r).sendSets := ⟨by simpa using h.1, by simpa using h.2, by simpa using h.3⟩

theorem SameSensed.of_work {s u : State} {m : Master} {o : Order} {j : StationNo}
    (h : SameSensed ((s.taken m o).st j).port (u.st j).port) (r : Reply) :
    SameSensed (s.st j).port (((u.answer m o r).sendSets).st j).port :=
  ⟨by simpa using h.1, by simpa using h.2, by simpa using h.3, by simpa using h.4, by simpa using h.5⟩

theorem OthersKept.of_work {s u : State} {m : Master} {o : Order} {i : StationNo} (h : OthersKept i (s.taken m o) u) (r : Reply) :
    OthersKept i s (u.answer m o r).sendSets := fun j hj =>
  ⟨by simpa using (h j hj).1, by simpa using (h j hj).2.1, SameSensed.of_work (h j hj).2.2 r⟩

theorem Raised.of_work {s u : State} {m : Master} {o : Order} {a : List (Alert × Option Master)} {k : List AlertKind}
    (h : Raised (s.taken m o) u a k) (r : Reply) : Raised s (u.answer m o r).sendSets a k :=
  (h.from_congr (s' := s) rfl rfl).to_congr rfl

/-- The Arbiter's view of a station is untouched by the answer. -/
@[simp] theorem State.driveStatus_answer_sendSets (s : State) (m : Master) (o : Order) (r : Reply) (i : StationNo) :
    ((s.answer m o r).sendSets).driveStatus i = s.driveStatus i := rfl

/-! ### Station orders -/

/-- R131: a station order on one station that takes it. -/
theorem stationOrder_ok {c : OrderCode} {v : Verdict} {work : StationWork} {m : Master} {o : Order} {s u : State} {i : StationNo}
    (hw : s.refusedWhole c o = none) (ht : targetOf o.target = .station i) (h : work i s = .ok u) :
    stationOrder c v work m o s = (u, some (.plain v)) := by simp [stationOrder, hw, ht, h]

/-- R131: a station order on one station that refuses it. -/
theorem stationOrder_error {c : OrderCode} {v w : Verdict} {work : StationWork} {m : Master} {o : Order} {s : State}
    {i : StationNo} (hw : s.refusedWhole c o = none) (ht : targetOf o.target = .station i) (h : work i s = .error w) :
    stationOrder c v work m o s = (s, some (.plain w)) := by simp [stationOrder, hw, ht, h]

/-- R122: an order refused whole. -/
theorem stationOrder_refused {c : OrderCode} {v w : Verdict} {work : StationWork} {m : Master} {o : Order} {s : State}
    (hw : s.refusedWhole c o = some w) : stationOrder c v work m o s = (s, some (.plain w)) := by simp [stationOrder, hw]

/-- R121, R123: a station order on several stations is under way from its taking on. -/
theorem stationOrder_several {c : OrderCode} {v : Verdict} {work : StationWork} {m : Master} {o : Order} {s : State}
    (hw : s.refusedWhole c o = none) (ht : ∀ i, targetOf o.target ≠ .station i) :
    stationOrder c v work m o s
      = ({ s with underWay := some ⟨m, o, s.targetStations (targetOf o.target), []⟩ }, none) := by
  cases h : targetOf o.target <;> simp_all [stationOrder]

/-! ### An order on several stations, turn by turn -/

/-- R129: a station that takes the order at its turn. -/
theorem State.workTurn_ok {s u : State} {work : StationWork} {i : StationNo} (h : work i s = .ok u) (w : OrderUnderWay)
    (rest : List StationNo) :
    s.workTurn w work i rest
      = { u with underWay := some { w with rest := rest, results := w.results ++ [(i, none)] } }.sendSets := by
  simp [State.workTurn, h]

/-- R129: a station that refuses the order at its turn. -/
theorem State.workTurn_error {s : State} {v : Verdict} {work : StationWork} {i : StationNo} (h : work i s = .error v)
    (w : OrderUnderWay) (rest : List StationNo) :
    s.workTurn w work i rest
      = { s with underWay := some { w with rest := rest, results := w.results ++ [(i, some v)] } }.sendSets := by
  simp [State.workTurn, h]

/-- R129: a turn leaves the order under way on the stations after it, with one result more. -/
theorem State.workTurn_underWay (s : State) (w : OrderUnderWay) (work : StationWork) (i : StationNo) (rest : List StationNo) :
    ∃ r, (s.workTurn w work i rest).underWay = some { w with rest := rest, results := w.results ++ [(i, r)] } := by
  unfold State.workTurn
  split
  · exact ⟨none, rfl⟩
  · exact ⟨_, rfl⟩

theorem State.workNext_cons (s : State) {w : OrderUnderWay} (work : StationWork) {i : StationNo} {rest : List StationNo}
    (h : w.rest = i :: rest) : s.workNext w work = s.workTurn w work i rest := by simp [State.workNext, h]

/-- R130: with no station left the answer is built, and the Order Unit is free. -/
theorem State.workNext_nil (s : State) {w : OrderUnderWay} (work : StationWork) (h : w.rest = []) :
    s.workNext w work = ({ s with underWay := none }.answer w.link w.order (groupReply w.results)).sendSets := by
  simp [State.workNext, h]

theorem workTurns_idle (work : StationWork) (n : Nat) {s : State} (h : s.underWay = none) : workTurns work n s = s := by
  cases n <;> simp [workTurns, h]

theorem workTurns_step (work : StationWork) (n : Nat) {s : State} {w : OrderUnderWay} (h : s.underWay = some w) :
    workTurns work (n + 1) s = workTurns work n (s.workNext w work) := by simp [workTurns, h]

/-- R121: with a turn for each station left and one for the answer, the order is no longer under way. -/
theorem workTurns_done (work : StationWork) :
    ∀ (rest : List StationNo) (s : State) (w : OrderUnderWay), s.underWay = some w → w.rest = rest →
      (workTurns work (rest.length + 1) s).underWay = none := by
  intro rest
  induction rest with
  | nil =>
    intro s w hs hw
    rw [workTurns_step work _ hs, State.workNext_nil s work hw]
    rfl
  | cons i rest ih =>
    intro s w hs hw
    rw [List.length_cons, workTurns_step work _ hs, State.workNext_cons s work hw]
    obtain ⟨r, hr⟩ := s.workTurn_underWay w work i rest
    exact ih _ _ hr rfl

/-- R121: the Order Unit is free when an order has been worked to its end. -/
theorem State.finishOrder_underWay (s : State) (work : StationWork) : (s.finishOrder work).underWay = none := by
  unfold State.finishOrder
  split
  · exact workTurns_done work _ s _ ‹_› rfl
  · assumption

theorem State.finishOrder_idle {s : State} (work : StationWork) (h : s.underWay = none) : s.finishOrder work = s := by
  simp [State.finishOrder, h]

/-! ### The rows of station orders -/

/-- R121, R155: the row of a station order that is not taken. -/
theorem State.giveStationOrder_waits {s : State} {m : Master} {o : Order} (h : s.takesNow m o = false) (order : OrderWork)
    (work : StationWork) : s.giveStationOrder m o order work = s.modLink m (Link.place o) := by
  unfold State.takesNow at h
  simp [State.giveStationOrder, h]

/-- R121, R155: the row of a station order that is taken. -/
theorem State.giveStationOrder_taken {s : State} {m : Master} {o : Order} (h : s.takesNow m o = true) (order : OrderWork)
    (work : StationWork) :
    s.giveStationOrder m o order work = ((s.modLink m (Link.place o)).takeOrder m o order).finishOrder work := by
  unfold State.takesNow at h
  simp [State.giveStationOrder, h]

/-- R121: an order is taken only while no other is under way. -/
theorem State.takesNow_free {s : State} {m : Master} {o : Order} (h : s.takesNow m o = true) : s.underWay = none := by
  unfold State.takesNow State.takesPlaced State.nextServed at h
  cases hu : s.underWay with
  | none => rfl
  | some w => simp [hu] at h

/-- R121, R156: a station order that is answered at once, by work that leaves no order under way. -/
theorem State.giveStationOrder_answered {s : State} {m : Master} {o : Order} (h : s.takesNow m o = true) {order : OrderWork}
    {work : StationWork} {u : State} {r : Reply} (hw : order m o (s.taken m o) = (u, some r)) (hu : u.underWay = none) :
    s.giveStationOrder m o order work = (u.answer m o r).sendSets := by
  rw [State.giveStationOrder_taken h]
  unfold State.takeOrder
  unfold State.taken at hw
  simp only [hw]
  exact State.finishOrder_idle work (by simpa using hu)

end Sys2Proof.Machine
end

