-- ==== Sys2Proof/Laws/Params.lean ====
section
/-! SUPPORT. The parameter tables' small lemmas: the numbers of masters and levels, and the table and item
numbers that an index is made of (R124, R132). -/

namespace Sys2Proof.Machine

@[simp] theorem masterOfNumber_masterNumber (m : Master) : masterOfNumber (masterNumber m) = some m := by cases m <;> rfl

theorem masterNumber_lt (m : Master) : masterNumber m < 3 := by cases m <;> decide

theorem masterOfNumber_isSome {n : Nat} (h : n < 3) : (masterOfNumber n).isSome = true := by
  interval_cases n <;> rfl

@[simp] theorem Authority.ofNumber_number (a : Authority) : Authority.ofNumber a.number = some a := by cases a <;> rfl

/-- R133: a level above 2 is refused. -/
theorem Authority.ofNumber_above {n : Nat} (h : 2 < n) : Authority.ofNumber n = Option.none := by
  unfold Authority.ofNumber
  split <;> first | (exfalso; omega) | rfl

/-- R132: the row and the item of an index, in a table whose rows hold `width` items. -/
theorem index_row {width row item : Nat} (h : item < width) : (width * row + item) / width = row := by
  rw [Nat.mul_add_div (by omega), Nat.div_eq_of_lt h, Nat.add_zero]

theorem index_item {width row item : Nat} (h : item < width) : (width * row + item) % width = item := by
  rw [Nat.mul_add_mod, Nat.mod_eq_of_lt h]

end Sys2Proof.Machine
end

