-- ==== Sys2Proof/Laws/Reports.lean ====
section
/-! SUPPORT. What taking a report does before the Sequencer works on it: the block of eight bytes, the port's readings (R61), and
the Tension Unit's stages on a sample that brings no surge (R78). -/

namespace Sys2Proof.Machine

/-- Two changes of one station are one. -/
theorem State.modSt_modSt (s : State) (i : StationNo) (f g : Station → Station) :
    (s.modSt i f).modSt i g = s.modSt i fun x => g (f x) := by
  have h : (s.modSt i f).st i = f (s.st i) := by simp
  unfold State.modSt at h ⊢
  rw [h]
  simp

/-- A change that leaves the station as it is changes nothing. -/
theorem State.modSt_self (s : State) (i : StationNo) (f : Station → Station) (h : f (s.st i) = s.st i) : s.modSt i f = s := by
  unfold State.modSt
  rw [h]
  have e : s.stations.set i.val (s.st i) i.isLt = s.stations := by
    apply Vector.ext
    intro k hk
    rw [Vector.getElem_set]
    split
    · subst k; rfl
    · rfl
  rw [e]

/-- R60: eight bytes that arrive with no partial block before them are one block. -/
theorem receiveReportBytes_block (s : State) (i : StationNo) (a b c d e f g h : Byte) (hb : (s.st i).port.block = []) :
    receiveReportBytes i [a, b, c, d, e, f, g, h] s = s.completeBlock i [a, b, c, d, e, f, g, h] := by
  simp [receiveReportBytes, State.receiveReportByte, State.modPort, State.modSt_modSt, hb]
  congr 1
  apply State.modSt_self
  rw [← hb]

/-! ### The port's readings -/

section
variable (loss stall : Nat) (r : Report) (st : Station)

@[simp] theorem Station.takeReadings_tension : (st.takeReadings loss stall r).tension = st.tension := rfl
@[simp] theorem Station.takeReadings_readings : (st.takeReadings loss stall r).port.readings = some r.readings := rfl
@[simp] theorem Station.takeReadings_encoder : (st.takeReadings loss stall r).port.encoder = some r.encoder := rfl
@[simp] theorem Station.takeReadings_reportLossTimer : (st.takeReadings loss stall r).port.reportLossTimer = some loss := rfl
@[simp] theorem Station.takeReadings_reportSinceFault : (st.takeReadings loss stall r).port.reportSinceFault = true := rfl
@[simp] theorem Station.takeReadings_block : (st.takeReadings loss stall r).port.block = st.port.block := rfl
@[simp] theorem Station.takeReadings_handshake : (st.takeReadings loss stall r).port.handshake = st.port.handshake := rfl
@[simp] theorem Station.takeReadings_latchReading : (st.takeReadings loss stall r).latchReading = r.readings.latch := rfl
@[simp] theorem Station.takeReadings_settling : (st.takeReadings loss stall r).settling = st.settling := rfl
@[simp] theorem Station.takeReadings_computed : (st.takeReadings loss stall r).computed = st.computed := rfl

theorem Station.takeReadings_record :
    (st.takeReadings loss stall r).record
      = { st.record with
          payoutLength := newLength st.record.payoutLength (encoderDifference st.port.encoder r.encoder) r.readings.endStop } := rfl

end

/-! ### The Tension Unit -/

/-- R80, R82: stage 2 leaves what the surge test reads. -/
@[simp] theorem Tension.surges_limit (x : Tension) (t step u : Nat) : (x.limit t).surges step u = x.surges step u := by
  unfold Tension.limit; split <;> rfl

/-- R80, R83: stage 2 leaves what stage 4 reads. -/
@[simp] theorem Tension.filterTo_limit (x : Tension) (t shift u : Nat) : (x.limit t).filterTo shift u = x.filterTo shift u := by
  unfold Tension.limit; split <;> rfl

/-- R79 to R83, R87: the tension items of a station after a sample. -/
def Tension.sampled (c : Calibration) (t : Nat) (x : Tension) : Tension := (x.limit t).filterStage c.filterShift (limitTension t)

@[simp] theorem Tension.sampled_filtered (c : Calibration) (t : Nat) (x : Tension) :
    (x.sampled c t).filtered = some (x.filterTo c.filterShift (limitTension t)) := by
  simp [Tension.sampled, Tension.filterStage]

@[simp] theorem Tension.sampled_hi (c : Calibration) (t : Nat) (x : Tension) : (x.sampled c t).hi = x.hi := by
  unfold Tension.sampled Tension.limit; split <;> rfl

@[simp] theorem Tension.sampled_lo (c : Calibration) (t : Nat) (x : Tension) : (x.sampled c t).lo = x.lo := by
  unfold Tension.sampled Tension.limit; split <;> rfl

/-- R78: a sample that brings no surge detection changes the tension items of its station alone. -/
theorem State.computeTension_quiet (s : State) (i : StationNo) (r : Readings)
    (h : (s.st i).tension.surges s.berth.surgeStep (limitTension (s.sampleTension i r)) = false) :
    s.computeTension i r = s.modTension i (Tension.sampled (s.calibration i) (s.sampleTension i r)) := by
  unfold State.computeTension
  simp only [State.st_modTension_same, Tension.surges_limit, h, Bool.false_eq_true, if_false]
  rw [show ∀ f g, (s.modTension i f).modTension i g = s.modTension i fun x => g (f x) from fun f g => State.modSt_modSt s i _ _]
  rfl

end Sys2Proof.Machine
end

