-- ==== Sys2Proof/WellFormed.lean ====
section
/-! DEFINITION. Which terms of `Instr` are commands that can reach the part: the lengths and ranges the wire and the memory
allow. The machine runs every term; a check here only says that the outside world can send it. -/

namespace Sys2Proof

/-- A frame carries at most 16 parameter bytes: its length byte is at most 19 and counts code, tag and target (R154). -/
def OrderArgs.wellFormed (o : OrderArgs) : Bool := o.params.length ≤ 16

/-- As `OrderArgs.wellFormed`, with the service byte of SET_SERVICE counted (R158). -/
def OrderArgs.wellFormedService (o : OrderArgs) : Bool := o.params.length ≤ 15

/-- A length byte that spoils a frame lies outside 3..19 (R154). -/
def BadByte.wellFormed : BadByte → Bool
  | .stopBitAtSpacing => true
  | .length v => v.toNat < 3 || 19 < v.toNat

/-- The command can reach the part. -/
def Instr.wellFormed : Instr → Bool
  | .powerOn _ _ _ n => n ≤ 1716 + 6
  | .stationReport _ bytes => 1 ≤ bytes.length && bytes.length ≤ 8
  | .reportGapTimeout _ => true
  | .reportLossTimeout _ => true
  | .brakeTimeout _ => true
  | .setWatchExpiry _ => true
  | .stallTimeout _ => true
  | .seatTimeout _ => true
  | .latchOpenTimeout _ => true
  | .surgeTimerExpiry => true
  | .holdoffExpiry _ => true
  | .vesselReleaseAsserted => true
  | .vesselReleaseDeasserted => true
  | .eqrTimerExpiry => true
  | .quayStopAsserted => true
  | .quayStopReleased => true
  | .linkReset _ => true
  | .orderFrame _ bytes => 1 ≤ bytes.length && bytes.length ≤ 23
  | .orderFrameGapTimeout _ => true
  | .answerSent _ => true
  | .runOut o => o.wellFormed
  | .seat o => o.wellFormed
  | .release o => o.wellFormed
  | .rewind o => o.wellFormed
  | .stop o => o.wellFormed
  | .tend o => o.wellFormed
  | .clearFault o => o.wellFormed
  | .setServiceOut o => o.wellFormedService
  | .setServiceIn o => o.wellFormedService
  | .setPhase o => o.wellFormed
  | .takeLocal o => o.wellFormed
  | .giveLocal o => o.wellFormed
  | .berthReset o => o.wellFormed
  | .setParam o => o.wellFormed
  | .getParam o => o.wellFormed
  | .profileSave o => o.wellFormed
  | .profileSaveEnd faulty => faulty.all fun c => c.1 < 2048
  | .getStation o => o.wellFormed
  | .getBerth o => o.wellFormed
  | .readHistory o => o.wellFormed
  | .fetchAlert o => o.wellFormed
  | .profileReloadEnd _ => true
  | .framingError _ b => b.wellFormed

end Sys2Proof
end

