-- ==== Sys2Proof/Tests/Slice0.lean ====
section
/-! SUPPORT. Tests. First the smoke test of WellFormed, then small tests of one step each, whose expected results come from the
spec's rules and worked sequences, then for each statement of the certificates a state and operands that meet its hypotheses. -/

open Sys2Proof Sys2Proof.Machine

namespace Sys2Proof.Tests

set_option Elab.async false

/-! ### States to start from -/

/-- The state a command leaves. -/
def after (c : Instr) (s : State) : State :=
  match exec c s with
  | .next t => t
  | .fault _ => s
  | .refused _ => s

/-- A line in a state, with its latch as read, at a filtered tension, its length 5000 counts. -/
def lineOf (state : LineState) (latch : Latch) (tension : Nat) : Station :=
  { record := { Record.powerOn with state := state, recon := none, payoutLength := some 5000 }
    port := { Port.powerOn with
      readings := some ⟨latch, .set, false, false, 0⟩, encoder := some 100, reportSinceFault := true
      reportLossTimer := some 250 }
    tension := { Tension.powerOn with filtered := some tension, seedPending := false } }

/-- A berth in a phase with its lines, the alert queues empty. -/
def berthOf (phase : Phase) (lines : StationNo → Station) : State :=
  { State.reset with phase := phase, stations := Vector.ofFn lines, mailboxes := ⟨.empty, .empty, .empty⟩ }

/-- A berth whose station 3 is given and whose other lines are slack. -/
def berthWith (phase : Phase) (st : Station) : State := berthOf phase fun i => if i = 3 then st else lineOf .slack .open 0

/-- An order with tag 7. -/
def ord (link : Master) (target : Byte) (params : List Byte) : OrderArgs := ⟨link, 7, target, params⟩

/-- A report of a line at rest at a tension: at the default calibration its sample scales to that tension (R77, R79). -/
def reportAt (latch : Latch) (tension : Nat) : Report :=
  { encoder := 100
    readings := { latch := latch, brake := .set, endStop := false, moduleFault := false
                  loadSample := BitVec.ofNat 16 ((tension * 256 + 12) / 25) } }

/-- The mooring plan of section 1.7. -/
def plan : Params :=
  { Params.default with groups := #v[⟨0, 3, 2, 1⟩, ⟨4, 7, 3, 0⟩, ⟨8, 11, 2, 1⟩, .default, .default, .default] }

/-- The starting point of the worked sequence of section 1.7, station 0 above its release limit and the others at it. -/
def moored : State :=
  { berthOf .moored fun i =>
      if i = 0 then lineOf .held .closed 400
      else if i < 7 ∨ (8 ≤ i ∧ i < 13) then lineOf .held .closed 50
      else if i = 7 then lineOf .stowed .open 0 else lineOf .outOfService .open 0 with
    params := plan }

/-- The sequence of section 1.7 at its step 5: stations 0 and 1 slack, station 5 faulted with its latch closed, in UNMOORING. -/
def unmooring : State :=
  { berthOf .unmooring fun i =>
      if i < 2 then lineOf .slack .open 0
      else if i = 5 then
        { lineOf .faulted .closed 50 with
          record := { (lineOf .faulted .closed 50).record with faultCause := some .reportLost, faultCount := 1 } }
      else if i < 7 ∨ (8 ≤ i ∧ i < 13) then lineOf .held .closed 50
      else if i = 7 then lineOf .stowed .open 0 else lineOf .outOfService .open 0 with
    params := plan }

/-- A line in a drive state whose grant is held and whose brake is free. -/
def driven (state : LineState) (operation : Option Operation) (drive : DriveCommand) : Station :=
  let l := lineOf state .open 100
  { l with
    record := { l.record with
      operation := operation, owner := operation.map fun _ => .shore
      runOutTarget := if state = .payout then some 6000 else none }
    port := { l.port with drive := drive, brake := .free, handshake := .driving, stallTimer := some 2000 } }

/-- The same line while its holder is active. -/
def held3 (s : State) : State := { s with holders := [⟨3, 2, .active, 0⟩], nextGrant := 1 }

/-- The alert kinds and details in the shore's queue. -/
def shoreAlerts (s : State) : List (AlertKind × Nat) := (s.mailboxes.get .shore).entries.map fun e => (e.kind, e.detail)

/-- The state of station 3. -/
def state3 (s : State) : LineState := (s.st 3).record.state

/-! ### The smoke test of WellFormed -/

theorem smoke_powerOn : (Instr.powerOn false false true 1723).wellFormed = false := by decide
theorem smoke_stationReport : (Instr.stationReport 3 []).wellFormed = false := by decide
theorem smoke_stationReport_long : (Instr.stationReport 3 (List.replicate 9 0)).wellFormed = false := by decide
theorem smoke_orderFrame : (Instr.orderFrame .shore []).wellFormed = false := by decide
theorem smoke_orderFrame_long : (Instr.orderFrame .shore (List.replicate 24 0)).wellFormed = false := by decide
theorem smoke_orders : ([Instr.runOut, .seat, .release, .rewind, .stop, .tend, .clearFault, .setPhase, .takeLocal, .giveLocal,
    .berthReset, .setParam, .getParam, .profileSave, .getStation, .getBerth, .readHistory, .fetchAlert].all fun c =>
      (c (ord .shore 3 (List.replicate 17 0))).wellFormed = false ∧ (c (ord .shore 3 (List.replicate 16 0))).wellFormed = true)
    = true := by decide
theorem smoke_setService : ([Instr.setServiceOut, .setServiceIn].all fun c =>
      (c (ord .shore 3 (List.replicate 16 0))).wellFormed = false ∧ (c (ord .shore 3 (List.replicate 15 0))).wellFormed = true)
    = true := by decide
theorem smoke_profileSaveEnd : (Instr.profileSaveEnd [(2048, 0)]).wellFormed = false := by decide
theorem smoke_framingError : (Instr.framingError .quay (.length 3)).wellFormed = false := by decide
theorem smoke_framingError_high : (Instr.framingError .quay (.length 19)).wellFormed = false := by decide

/-! ### Words, frames and bytes -/

/-- The opcode table gives no row any bits. -/
theorem test_no_words : decodeTableWord 16 0x1234 = none ∧ State.withFetchWord moored 16 0x1234 = moored := ⟨rfl, rfl⟩

/-- Section 3.2: polynomial 0x1021, start 0xFFFF, not reflected, not inverted; the published check value of that CRC. -/
theorem test_crc : crc16 [0x31, 0x32, 0x33, 0x34, 0x35, 0x36, 0x37, 0x38, 0x39] = 0x29B1#16 := by decide +kernel

/-- Section 10.4: the frame of a SEAT to station 3 with tag 7, its check worked out by hand. -/
theorem test_order_frame :
    ((after (.orderFrame .shore [0xA5, 0x03, 0x02, 0x07, 0x03, 0xD8, 0x88]) moored).link .shore).waiting
      = some ⟨0x02, 7, 3, []⟩ := by decide +kernel

/-- R155: a frame whose check is wrong is discarded. -/
theorem test_order_frame_check :
    after (.orderFrame .shore [0xA5, 0x03, 0x02, 0x07, 0x03, 0xD8, 0x89]) moored = moored := by decide +kernel

/-- R154: the gap sends the receiver hunting. -/
theorem test_order_gap :
    ((after (.orderFrameGapTimeout .quay) (after (.orderFrame .quay [0xA5, 0x03]) moored)).link .quay).receiver = .hunting := by
  decide +kernel

/-- R154: a length byte of 2 is no length. -/
theorem test_framing_error :
    ((after (.framingError .quay (.length 2)) (after (.orderFrame .quay [0xA5]) moored)).link .quay).receiver = .hunting := by
  decide +kernel

/-- R155: the transmitter is idle after the answer's last byte. -/
theorem test_answer_sent :
    ((after (.answerSent .shore) (after (.seat (ord .shore 3 [])) moored)).link .shore).sending = none := by decide +kernel

/-! ### Reports -/

/-- Section 4.5, steps 4 and 5: with z = 1000 and g = 410 a sample of 25975 scales to 2500 tu. -/
theorem test_calibration : scaleSample ⟨1000, 410, 2⟩ 25975 = 2500 := by decide

/-- Section 4.3, the worked case of five samples: z = 1000, g = 410. -/
theorem test_scaling :
    [13500, 13510, 13478, 900, 65535].map (scaleSample ⟨1000, 410, 2⟩) = [1251, 1252, 1249, 0, 6460] := by decide

/-- Section 4.3, the same case and the case of the dead zone: the filtered tension at k = 2 after each report. -/
theorem test_filter :
    [(1200, 1251), (1213, 1252), (1223, 1249), (1229, 0), (922, 4000), (1229, 1231), (1229, 1232), (1230, 1236), (1232, 1222),
        (1230, 1228)].map (fun p => filterStep 2 p.1 p.2)
      = [1213, 1223, 1229, 922, 1692, 1229, 1230, 1232, 1230, 1230] := by decide

/-- Section 3.2 and R54: a report block written out by hand (station 3, sample 0x6577, count 100, latch CLOSED) on a station that
settles: it is reconstructed into HELD at 2537 tu, 25975 times the default gain 400, over 4096, to the nearest. -/
theorem test_report_reconstructs :
    let t := after (.stationReport 3 [3, 0x77, 0x65, 100, 0, 1, 0x08, 0xBF]) State.reset
    state3 t = .held ∧ (t.st 3).settling = false ∧ (t.st 3).tension.filtered = some 2537
      ∧ (t.st 3).port.encoder = some 100 ∧ (t.st 3).port.sends = 2 := by decide +kernel

/-- R60: the station number of a block must be the port's; the command set is sent all the same (R63). -/
theorem test_report_other_station :
    let t := after (.stationReport 4 [3, 0x77, 0x65, 100, 0, 1, 0x08, 0xBF]) State.reset
    (t.st 4).port.readings = none ∧ (t.st 4).settling = true ∧ (t.st 4).port.sends = 2 := by decide +kernel

/-- R60: the gap drops the partial block. -/
theorem test_report_gap :
    ((after (.reportGapTimeout 3) (after (.stationReport 3 [3, 0x77]) State.reset)).st 3).port.block = [] := by decide +kernel

/-! ### Timers -/

/-- Section 1.7, step 3: station 5's reports stop; group 1's holding count falls to 2 and PLAN_SHORT is raised with detail 2. -/
theorem test_report_loss :
    let t := after (.reportLossTimeout 5) moored
    (t.st 5).record.state = .faulted ∧ (t.st 5).record.faultCause = some .reportLost ∧ t.holdingCount 1 = 2
      ∧ (t.st 5).engaged = true ∧ t.shortFlags[(1 : GroupNo)] = true ∧ (AlertKind.planShort, 2) ∈ shoreAlerts t := by decide +kernel

/-- R73: a brake that does not set at the end of a motion. -/
theorem test_brake_timeout :
    let l := lineOf .held .closed 400
    let t := after (.brakeTimeout 3) (berthWith .moored { l with
      port := { l.port with drive := .hold, handshake := .setting, brakeTimer := .step 1000 } })
    state3 t = .faulted ∧ (t.st 3).record.faultCause = some .brake ∧ (t.st 3).port.drive = .off := by decide +kernel

/-- R74: the set watch faults the station only where the latest reading is FREE. -/
theorem test_set_watch :
    let l := lineOf .held .closed 400
    let watching (b : Brake) : Station :=
      { l with port := { l.port with brakeTimer := .watch 1000, readings := some ⟨.closed, b, false, false, 0⟩ } }
    state3 (after (.setWatchExpiry 3) (berthWith .moored (watching .free))) = .faulted
      ∧ state3 (after (.setWatchExpiry 3) (berthWith .moored (watching .set))) = .held := by decide +kernel

/-- R67, R30, R141: a line that does not move; FAULT (level 2) stands before OP_FAILED (level 1) in the shore's queue. -/
theorem test_stall :
    let t := after (.stallTimeout 3) (held3 (berthWith .moored (driven .payout (some .runOut) .pay)))
    state3 t = .faulted ∧ (t.st 3).record.faultCause = some .stall ∧ t.holders = []
      ∧ shoreAlerts t = [(.fault, 4), (.opFailed, 4)] := by decide +kernel

/-- R36: SEAT FAILED(TIMEOUT), the latch opened. -/
theorem test_seat_timeout :
    let l := lineOf .seating .open 0
    let t := after (.seatTimeout 3) (berthWith .moored { l with
      record := { l.record with operation := some .seat, owner := some .shore, seatTimer := some 8000 } })
    state3 t = .releasing ∧ (t.st 3).record.latchCommand = .open ∧ (t.st 3).record.latchOpenTimer = some 5000 := by decide +kernel

/-- R40: a latch that does not open. -/
theorem test_latch_open_timeout :
    let l := lineOf .releasing .moving 0
    let t := after (.latchOpenTimeout 3) (berthWith .moored { l with record := { l.record with latchOpenTimer := some 5000 } })
    state3 t = .faulted ∧ (t.st 3).record.faultCause = some .latchStuck := by decide +kernel

/-- R104: the surge timer ends with SURGE_END. -/
theorem test_surge_end :
    let t := after .surgeTimerExpiry { moored with surgeTimer := some 10000 }
    t.surgeTimer = none ∧ shoreAlerts t = [(.surgeEnd, 0)] := by decide +kernel

/-- R113: the holdoff over, the station is granted where a grant is free. -/
theorem test_holdoff :
    let l := lineOf .payout .open 0
    let t := after (.holdoffExpiry 3) { berthWith .moored { l with
      record := { l.record with operation := some .runOut, owner := some .shore, runOutTarget := some 6000 } } with
      holdoffs := [⟨3, 2000⟩] }
    t.driveStatus 3 = .granted ∧ (t.st 3).port.handshake = .freeing ∧ (t.st 3).port.brake = .free := by decide +kernel

/-! ### The safety inputs -/

/-- R149: the release line arms. -/
theorem test_release_asserted :
    let t := after .vesselReleaseAsserted moored
    t.eqr = .arming ∧ t.eqrTimer = some 3000 ∧ shoreAlerts t = [(.eqrArming, 0)] := by decide +kernel

/-- R149: deasserted in time, it is abandoned. -/
theorem test_release_deasserted :
    let t := after .vesselReleaseDeasserted (after .vesselReleaseAsserted moored)
    t.eqr = .idle ∧ t.eqrTimer = none ∧ t.phase = .moored := by decide +kernel

/-- R151, R152: the firing opens every held line. -/
theorem test_firing :
    let t := after .eqrTimerExpiry (after .vesselReleaseAsserted moored)
    t.phase = .emergency ∧ t.eqr = .fired
      ∧ (allStations.all fun i => (moored.st i).record.state ≠ .held ∨ (t.st i).record.state = .releasing) = true := by
  decide +kernel

/-- R117: the quay stop freezes the drives; R116: released, a waiting station is granted. -/
theorem test_quay_stop :
    let s := held3 (berthWith .moored (driven .payout (some .runOut) .pay))
    let t := after .quayStopAsserted s
    (t.st 3).port.brake = .set ∧ (t.st 3).port.drive = .hold ∧ state3 t = .payout ∧ t.quayStop = true
      ∧ (after .quayStopReleased t).quayStop = false := by decide +kernel

/-! ### Orders -/

/-- R33: a run-out to 6000 counts. -/
theorem test_run_out :
    let t := after (.runOut (ord .shore 3 [0x70, 0x17])) (berthWith .alongside (lineOf .slack .open 0))
    state3 t = .payout ∧ (t.st 3).record.runOutTarget = some 6000 ∧ t.driveStatus 3 = .granted := by decide +kernel

/-- R35: a seating. -/
theorem test_seat :
    let t := after (.seat (ord .shore 3 [])) (berthWith .alongside (lineOf .presented .open 0))
    state3 t = .seating ∧ (t.st 3).record.latchCommand = .close ∧ (t.st 3).record.seatTimer = some 8000 := by decide +kernel

/-- R19 and section 1.7, step 1: a RELEASE to group 0 is accepted by stations 0 and 1 and refused PLAN_MINIMUM (0x88) by the
others; station 0 goes to EASING and station 1 to RELEASING. -/
theorem test_release_group :
    let t := after (.release (ord .shore 16 [])) moored
    ((t.st 0).record.state, (t.st 1).record.state, (t.st 2).record.state, (t.st 3).record.state)
        = (.easing, .releasing, .held, .held)
      ∧ (t.link .shore).sending = some (answerFrame 0x03 7 ⟨.accepted, [3, 0, 0x88]⟩)
      ∧ t.holdingCount 0 = 2 ∧ t.engagedCount = 12 := by decide +kernel

/-- Section 1.7, steps 5 and 6: station 2 is refused SEQUENCE; of group 1 stations 4 and 6 are accepted, the first refusal being
WRONG_STATE (0x86). -/
theorem test_release_sequence :
    ((after (.release (ord .shore 2 [])) unmooring).link .shore).sending = some (answerFrame 0x03 7 (.plain .sequence))
      ∧ ((after (.release (ord .shore 17 [])) unmooring).link .shore).sending
          = some (answerFrame 0x03 7 ⟨.accepted, [0x50, 0, 0x86]⟩) := by decide +kernel

/-- R41: a rewind from PRESENTED. -/
theorem test_rewind :
    let t := after (.rewind (ord .vessel 3 [])) (berthWith .vacant (lineOf .presented .open 0))
    state3 t = .rewinding ∧ (t.st 3).record.owner = some .vessel := by decide +kernel

/-- R43: STOP on a PAYOUT gives SLACK and lets the drive come to rest through SETTING. -/
theorem test_stop :
    let t := after (.stop (ord .quay 3 [])) (held3 (berthWith .moored (driven .payout (some .runOut) .pay)))
    state3 t = .slack ∧ (t.st 3).port.handshake = .setting ∧ (t.st 3).record.operation = none := by decide +kernel

/-- R44: TEND clears the tending hold. -/
theorem test_tend :
    let l := lineOf .held .closed 400
    let t := after (.tend (ord .shore 3 [])) (berthWith .moored { l with record := { l.record with tendingHold := true } })
    (t.st 3).record.tendingHold = false ∧ state3 t = .held := by decide +kernel

/-- R47: CLEAR_FAULT on a station whose reports have come back begins its reconstruction. -/
theorem test_clear_fault :
    let t := after (.clearFault (ord .shore 5 [])) unmooring
    (t.st 5).settling = true ∧ (t.link .shore).sending = some (answerFrame 0x07 7 (.plain .done)) := by decide +kernel

/-- R45, R46: out of service, and in again through reconstruction. -/
theorem test_service :
    let t := after (.setServiceOut (ord .shore 3 [])) (berthWith .vacant (lineOf .slack .open 0))
    state3 t = .outOfService
      ∧ ((after (.setServiceIn (ord .shore 3 [])) (after (.answerSent .shore) t)).st 3).settling = true := by decide +kernel

/-- Section 1.7, step 4: SET_PHASE UNMOORING with latches engaged. -/
theorem test_set_phase :
    let t := after (.setPhase (ord .shore 32 [4])) moored
    t.phase = .unmooring ∧ shoreAlerts t = [(.phase, 4)]
      ∧ (t.link .shore).sending = some (answerFrame 0x10 7 (.plain .done)) := by decide +kernel

/-- R126: local control of group 0 is the quay's to take; another master's operation order is then refused. -/
theorem test_take_local :
    let t := after (.takeLocal (ord .quay 16 [])) moored
    t.localControl[(0 : GroupNo)] = true
      ∧ ((after (.release (ord .shore 3 [])) t).link .shore).sending = some (answerFrame 0x03 7 (.plain .localControl)) := by
  decide +kernel

/-- R126: given back. -/
theorem test_give_local :
    (after (.giveLocal (ord .quay 16 [])) { moored with localControl := Vector.replicate 6 true }).localControl[(0 : GroupNo)]
      = false := by decide +kernel

/-- R169: a berth reset starts every reconstruction but those of faulted and out-of-service stations. -/
theorem test_berth_reset :
    let t := after (.berthReset (ord .shore 32 [])) unmooring
    t.phase = .starting ∧ (t.st 4).settling = true ∧ (t.st 5).settling = false ∧ (t.st 13).settling = false := by decide +kernel

/-- R13's example: last = 5 of group 0 is refused RANGE; first = 9 makes it station 9 alone, its minimum 1. -/
theorem test_set_param :
    let s := { berthOf .vacant fun _ => lineOf .slack .open 0 with params := plan }
    ((after (.setParam (ord .shore 32 [2, 1, 5, 0, 0, 0])) s).link .shore).sending = some (answerFrame 0x20 7 (.plain .range))
      ∧ (after (.setParam (ord .shore 32 [2, 0, 12, 0, 0, 0])) s).params.groups[(0 : GroupNo)] = ⟨12, 12, 1, 1⟩ := by decide +kernel

/-- R114's example: a limit lowered from 4 to 1 stops station 6, then station 3; station 9 keeps its grant. -/
theorem test_grant_limit :
    let l := driven .payout (some .runOut) .pay
    let haul := { driven .tending none .haul with record := { (lineOf .tending .closed 0).record with tending := some ⟨.haul, 1⟩ } }
    let s := { berthOf .moored fun i => if i = 9 then haul else if i = 3 ∨ i = 6 then l else lineOf .slack .open 0 with
      holders := [⟨3, 2, .active, 0⟩, ⟨9, 1, .active, 1⟩, ⟨6, 2, .active, 2⟩], nextGrant := 3 }
    let t := after (.setParam (ord .shore 32 [5, 0, 1, 0, 0, 0])) s
    (t.holders.filter Holder.active).map Holder.station = [9] ∧ (t.st 6).port.handshake = .setting
      ∧ (t.st 3).port.handshake = .setting ∧ (t.st 9).port.handshake = .driving := by decide +kernel

/-- R132: GET_PARAM of the default grant limit, 4 (R134). -/
theorem test_get_param :
    ((after (.getParam (ord .quay 32 [5, 0])) State.reset).link .quay).sending
      = some (answerFrame 0x21 7 ⟨.done, [5, 0, 4, 0, 0, 0]⟩) := by decide +kernel

/-- R166, R167: a save of the plan, and the image it leaves: header and first entry (group 0, last = 3). -/
theorem test_profile_save :
    let t := after (.profileSave (ord .shore 32 [])) { berthOf .vacant fun _ => lineOf .slack .open 0 with params := plan }
    let u := after (.profileSaveEnd []) t
    t.saving.isSome = true ∧ u.saving = none
      ∧ ((List.range 10).map (cellAt u.memory)) = [0xC3, 1, 66, 0, 2, 1, 3, 0, 0, 0] := by decide +kernel

/-- R164, R168: a memory that does not respond reads ABSENT, and a power-on takes the lines' levels. -/
theorem test_power_on :
    let t := after (.powerOn true true false 0) moored
    t.phase = .starting ∧ t.profile.result = .absent ∧ t.releaseLine = true ∧ t.quayStop = true ∧ t.params = .default := by
  decide +kernel

/-- R169: the reload's end sends the waiting answer. -/
theorem test_profile_reload_end :
    let s := { moored with params := { plan with berth := { plan.berth with reloadOnReset := 1 } } }
    let t := after (.berthReset (ord .shore 32 [])) s
    (t.link .shore).sending = none
      ∧ ((after (.profileReloadEnd true) t).link .shore).sending = some (answerFrame 0x13 7 (.plain .accepted)) := by decide +kernel

/-- R160: byte 1 is the state's code, bytes 22 and 23 the filtered tension. -/
theorem test_get_station :
    (((after (.getStation (ord .vessel 3 [])) moored).link .vessel).sending.map List.length) = some 37 := by decide +kernel

/-- R161: bytes 2 of GET_BERTH is the latch-engaged count, 12 at the starting point of section 1.7. -/
theorem test_get_berth :
    (((after (.getBerth (ord .vessel 32 [])) moored).link .vessel).sending.bind fun f => f[7]?) = some 12 := by decide +kernel

/-- R89: an empty ring answers a count of 0. -/
theorem test_read_history :
    ((after (.readHistory (ord .shore 3 [])) moored).link .shore).sending = some (answerFrame 0x32 7 ⟨.done, [0]⟩) := by
  decide +kernel

/-- R145, R165: the PROFILE alert of the load, fetched once the berth has started; kind 14, subject the berth, detail 2. -/
theorem test_fetch_alert :
    let s := { moored with mailboxes := State.reset.mailboxes }
    let t := after (.fetchAlert (ord .shore 32 [])) s
    (t.mailboxes.get .shore).entries = [] ∧ (t.mailboxes.get .shore).attention = false
      ∧ ((t.link .shore).sending.bind fun f => f[5]?) = some 14 ∧ ((t.link .shore).sending.bind fun f => f[7]?) = some 2 := by
  decide +kernel

/-- The berth of section 1.7 with a RELEASE to group 0 taken and no station's turn come yet. -/
def releasingGroup : State := (moored.modLink .shore (Link.place (rowOrder .release (ord .shore 16 [])))).serveNext

/-- R157: a link reset empties its master's queue; an order of the link that is under way is applied whole, its answer abandoned
and the owners of what it started cleared. -/
theorem test_link_reset :
    ((after (.linkReset .shore) State.reset).mailboxes.get .shore).entries = []
      ∧ (let t := after (.linkReset .shore) releasingGroup
         ((t.st 0).record.state, (t.st 1).record.state, (t.st 2).record.state) = (.easing, .releasing, .held)
          ∧ (t.st 0).record.operation = some .release ∧ (t.st 0).record.owner = none
          ∧ t.underWay = none ∧ (t.link .shore).sending = none) := by decide +kernel

/-- R121, R129: station 1's reports stop between the first and the second station's turn of a RELEASE to group 0. It is then refused
WRONG_STATE (0x86), and stations 2 and 3, of a group at its minimum, PLAN_MINIMUM: station 0 alone is released. -/
theorem test_release_interrupted :
    let t := (after (.reportLossTimeout 1) releasingGroup.serveNext).servedOut
    (t.link .shore).sending = some (answerFrame 0x03 7 ⟨.accepted, [1, 0, 0x86]⟩)
      ∧ ((t.st 0).record.state, (t.st 1).record.state, (t.st 2).record.state, (t.st 3).record.state)
          = (.easing, .faulted, .held, .held) := by decide +kernel

/-- R121: with no command waiting, a step serves the order that waits on a link. -/
theorem test_step_serves :
    let s := after (.orderFrame .shore [0xA5, 0x03, 0x02, 0x07, 0x03, 0xD8, 0x88]) (berthWith .alongside (lineOf .presented .open 0))
    (match step s with
     | .next t => state3 t
     | .fault _ => .held
     | .refused _ => .held) = .seating := by decide +kernel

/-! ### Hypotheses met: one witness for each statement that has them -/

/-- A berth of slack lines. -/
def quiet : State := berthOf .alongside fun _ => lineOf .slack .open 0

/-- A configuration away from its defaults. -/
def tuned : Params :=
  { plan with
    band := plan.band.set 3 ⟨250, 350, 600, 40, 1200, 80, 8, 30000⟩
    berth := { plan.berth with grantLimit := 2, reloadOnReset := 1 } }

theorem witness_OrderRowsAreServed :
    orderOfRow (.seat (ord .shore 3 [])) = some (.shore, rowOrder .seat (ord .shore 3 []))
      ∧ moored.takesNow .shore (rowOrder .seat (ord .shore 3 [])) = true
      ∧ (moored.modLink .shore fun l => { l with sending := some [] }).takesNow .shore (rowOrder .seat (ord .shore 3 [])) = false
      ∧ moored.pending = [] ∧ moored.underWay = none ∧ moored.nextServed = none := by decide +kernel

theorem witness_LinkResetEffect :
    moored.underWay = none
      ∧ releasingGroup.underWay = some ⟨.shore, rowOrder .release (ord .shore 16 []), [0, 1, 2, 3], []⟩ := by decide +kernel

theorem witness_OrderFrameRoundTrip :
    (⟨0x20, 7, 32, List.replicate 16 0⟩ : Order).params.length ≤ 16 ∧ (moored.link .shore).receiver = .hunting
      ∧ (∀ n ∈ [(3 : Byte), 19], 3 ≤ n.toNat ∧ n.toNat ≤ 19 ∧ (List.replicate n.toNat (0 : Byte)).length = n.toNat
          ∧ [0, 0] ≠ checkBytes (n :: List.replicate n.toNat (0 : Byte))) := by
  decide +kernel

/-- A block to take; one with a wrong check, one of another station, and one whose latch field is 3. -/
theorem witness_ReportBlockRoundTrip :
    (moored.st 3).port.block = [] ∧ [0, 0] ≠ checkBytes [3, 0, 0, 0, 0, 0] ∧ (4 : Byte).toNat ≠ (3 : StationNo).val
      ∧ (7 : Byte).toNat % 4 = 3
      ∧ checkBytes [4, 0, 0, 0, 0, 0] = checkBytes ((reportBlock 4 ⟨0, ⟨.open, .set, false, false, 0⟩⟩).take 6) := by
  decide +kernel

theorem witness_RefusedOrdersChangeNothing :
    ∃ t, orderOfRow (.seat (ord .shore 3 [])) = some (.shore, rowOrder .seat (ord .shore 3 []))
      ∧ moored.takesNow .shore (rowOrder .seat (ord .shore 3 [])) = true ∧ Verdict.wrongState.refuses = true
      ∧ exec (.seat (ord .shore 3 [])) moored = .next t
      ∧ (t.link .shore).sending
          = some (answerFrame (rowOrder .seat (ord .shore 3 [])).code (rowOrder .seat (ord .shore 3 [])).tag (.plain .wrongState)) :=
  ⟨after (.seat (ord .shore 3 [])) moored, by decide +kernel, by decide +kernel, by decide +kernel, rfl, by decide +kernel⟩

/-- Each of the first three checks fails on an order that is taken; the targets are at the bounds of R123. -/
theorem witness_RefusedOrdersChangeNothing_whole :
    let starting := { moored with phase := .starting }
    let takes (s : State) (o : Order) := s.takesNow .shore o = true
    (takes starting ⟨0x02, 7, 3, []⟩ ∧ starting.phase = .starting)
      ∧ (takes moored ⟨0x09, 7, 3, []⟩ ∧ moored.phase ≠ .starting ∧ orderTable.all (fun row => row.1 ≠ 0x09) = true)
      ∧ (takes starting ⟨0x21, 7, 32, [1]⟩ ∧ (0x21, 2, TargetKind.berthOrder) ∈ orderTable)
      ∧ (takes moored ⟨0x08, 7, 3, [2]⟩ ∧ (0x08, 1, TargetKind.stationOrder) ∈ orderTable)
      ∧ ((moored.group 2).first ≤ 15 ∧ 15 < (moored.group 3).first)
      ∧ (takes moored ⟨0x03, 7, 19, []⟩ ∧ takes moored ⟨0x03, 7, 22, []⟩ ∧ takes moored ⟨0x03, 7, 32, []⟩
          ∧ takes moored ⟨0x30, 7, 16, []⟩ ∧ takes moored ⟨0x11, 7, 31, []⟩ ∧ takes moored ⟨0x10, 7, 31, [2]⟩)
      ∧ orderOfRow (.takeLocal (ord .shore 31 [])) = some (.shore, ⟨0x11, 7, 31, []⟩) := by
  decide +kernel

theorem witness_PowerOnStartsAnew : moored.saving = none := by decide +kernel

theorem witness_LinkEventsTouchOneLink :
    ((moored.modLink .shore fun l => { l with receiver := .collecting [] }).link .shore).receiver = .collecting []
      ∧ ((2 : Byte).toNat < 3 ∧ 19 < (20 : Byte).toNat) ∧ (0xA4 : Byte) ≠ 0xA5 ∧ (moored.link .shore).receiver = .hunting := by
  decide +kernel

/-! #### Reports -/

theorem witness_ReportUpdatesPort :
    let jump (n : Nat) : Report := { reportAt .closed 400 with encoder := BitVec.ofNat 16 n }
    (moored.st 3).port.block = [] ∧ (moored.st 3).record.state ≠ .faulted
      ∧ (moored.st 3).record.payoutLength = some 5000 ∧ (moored.st 3).port.encoder = some 100
      ∧ (reportAt .closed 400).readings.endStop = false
      ∧ ((jump 2148).encoder - 100#16).toInt.natAbs ≤ 2048 ∧ 2048 < ((jump 2149).encoder - 100#16).toInt.natAbs
      ∧ ((jump (65536 + 100 - 2048)).encoder - 100#16).toInt.natAbs ≤ 2048 := by decide +kernel

/-- A held line while its holder returns after a stop for the quay stop. -/
def returning3 : State :=
  let l := lineOf .payout .open 0
  { berthWith .moored { l with
      record := { l.record with operation := some .runOut, owner := some .shore, runOutTarget := some 6000 }
      port := { l.port with drive := .hold, handshake := .setting, brakeTimer := .step 1000 } } with
    holders := [⟨3, 2, .returning .requeue, 0⟩], nextGrant := 1, quayStop := true }

/-- The brake frees, and driving begins; it applies under a driven drum; it sets at the end of a motion that the quay stop ended. -/
theorem witness_ReportUpdatesPort_brake :
    let p := driven .payout (some .runOut) .pay
    let drive := held3 (berthWith .moored p)
    let free := held3 (berthWith .moored { p with
      port := { p.port with drive := .hold, handshake := .freeing, brakeTimer := .step 1000, stallTimer := none } })
    let r := reportAt .open 0
    let rf : Report := { r with readings := { r.readings with brake := .free } }
    (drive.drivesSound = true ∧ free.drivesSound = true ∧ returning3.drivesSound = true)
      ∧ (drive.arbiterSettled = true ∧ free.arbiterSettled = true ∧ returning3.arbiterSettled = true
          ∧ moored.arbiterSettled = true)
      ∧ (free.jumps 3 rf = false ∧ free.overRange 3 rf = false ∧ free.surges 3 rf = false ∧ (free.st 3).settling = false)
      ∧ (drive.jumps 3 r = false ∧ drive.surges 3 r = false ∧ returning3.surges 3 r = false ∧ returning3.overRange 3 r = false)
      ∧ ((after (.stationReport 3 (reportBlock 3 rf)) free).st 3).port.handshake = .driving
      ∧ ((after (.stationReport 3 (reportBlock 3 r)) drive).st 3).port.handshake = .freeing
      ∧ (after (.stationReport 3 (reportBlock 3 r)) returning3).queue = [⟨3, 2, some 0⟩]
      ∧ ((unmooring.st 5).record.state = .faulted ∧ (unmooring.st 5).settling = false ∧ (unmooring.st 5).port.block = [])
      ∧ (moored.startsSurge 3 (reportAt .closed 400) = true ∧ (moored.st 3).hauls = false ∧ moored.drivesSound = true) := by
  decide +kernel

theorem witness_ReportUpdatesPort_unknown :
    let l := lineOf .slack .open 0
    let s := berthWith .vacant { l with record := { l.record with payoutLength := none }, port := { l.port with encoder := none } }
    (s.st 3).port.block = [] ∧ (s.st 3).record.payoutLength = none ∧ (s.st 3).port.encoder = none := by decide +kernel

theorem witness_ReportComputesTension :
    (moored.st 3).port.block = [] ∧ (moored.st 3).computed = true ∧ (moored.st 13).computed = false := by decide +kernel

theorem witness_FilterStaysBetween :
    (300 ≤ 4000 ∧ 4000 ≤ 4000 ∧ 4 ≤ 4) ∧ ((308 : Int) - 300).natAbs ≤ 2 ^ (4 - 1)
      ∧ Tension.powerOn.seedPending = true := by decide

theorem witness_ReportFindingsFault :
    let bad : Report := { reportAt .closed 400 with readings := { (reportAt .closed 400).readings with moduleFault := true } }
    let far : Report := { reportAt .closed 400 with encoder := 2149 }
    let free : Report := { reportAt .closed 50 with readings := { (reportAt .closed 50).readings with brake := .free } }
    let full : Report :=
      { reportAt .closed 400 with readings := { (reportAt .closed 400).readings with loadSample := 65535 } }
    let run := moored.modTension 3 fun x => { x with saturationRun := 15 }
    ((moored.st 3).port.block = [] ∧ (moored.st 3).actsOnFinding = true ∧ bad.readings.moduleFault = true)
      ∧ (moored.jumps 3 far = true ∧ far.readings.moduleFault = false)
      ∧ ((run.st 3).port.block = [] ∧ (run.st 3).actsOnFinding = true ∧ run.jumps 3 full = false ∧ run.overRange 3 full = true)
      ∧ (moored.jumps 3 free = false ∧ moored.overRange 3 free = false ∧ moored.surges 3 free = false
          ∧ moored.arbiterSettled = true ∧ (moored.st 3).brakeFinding free.readings.brake = true)
      ∧ (moored.jumps 3 (reportAt .open 50) = false ∧ moored.overRange 3 (reportAt .open 50) = false
          ∧ (moored.st 3).brakeFinding (reportAt .open 50).readings.brake = false
          ∧ (moored.st 3).latchLost (reportAt .open 50).readings.latch = true) := by decide +kernel

/-- R50 on a line that is hauled in: TAKEUP in DRIVING, the brake reading FREE. -/
theorem witness_ReportFindingsFault_driven :
    let s := { berthWith .moored (driven .takeup (some .seat) .haul) with holders := [⟨3, 1, .active, 0⟩], nextGrant := 1 }
    let r : Report := { reportAt .open 100 with readings := { (reportAt .open 100).readings with brake := .free } }
    (s.st 3).port.block = [] ∧ (s.st 3).actsOnFinding = true ∧ r.readings.moduleFault = false ∧ s.jumps 3 r = false
      ∧ s.overRange 3 r = false ∧ (s.st 3).brakeFinding r.readings.brake = false
      ∧ (s.st 3).latchLost r.readings.latch = true ∧ s.drivesSound = true
      ∧ ((after (.stationReport 3 (reportBlock 3 r)) s).st 3).record.faultCause = some .latchLost := by decide +kernel

/-- A berth whose station 3 is a line in a state with an operation, at a filtered tension. -/
def lineAt (state : LineState) (operation : Option Operation) (latch : Latch) (tension : Nat) : State :=
  let l := lineOf state latch tension
  berthWith .moored { l with record := { l.record with operation := operation, owner := operation.map fun _ => .shore } }

/-- The same with a payout length, a run-out target and a tending. -/
def lineFor (s : State) (length target : Option Nat) (tending : Option Tending) : State :=
  s.modRecord 3 fun r => { r with payoutLength := length, runOutTarget := target, tending := tending }

/-- The berth of section 1.7 in start-up, its last station settling, the release line asserted. -/
def lastSettling : State :=
  { moored.modRecord 3 fun r => { r with recon := some .berthReset } with phase := .starting, releaseLine := true }

/-- A fault in MOORED by which group 1 falls short (R17), and one by which the last settling station ends STARTING (R163). -/
theorem witness_ReportFindingsFault_plan :
    let bad : Report := { reportAt .closed 50 with readings := { (reportAt .closed 50).readings with moduleFault := true } }
    let t := after (.stationReport 5 (reportBlock 5 (reportAt .open 50))) moored
    let u := after (.stationReport 3 (reportBlock 3 bad)) lastSettling
    (moored.phase = .moored ∧ (moored.st 5).actsOnFinding = true ∧ (moored.st 5).latchLost .open = true
        ∧ fallenShort moored t 5 = some 1 ∧ shoreAlerts t = [(.planShort, 2), (.fault, 2)])
      ∧ (lastSettling.phase = .starting ∧ (lastSettling.st 3).actsOnFinding = true ∧ lastSettling.reload = none
          ∧ (∀ j, (u.st j).settling = false) ∧ u.phase = .moored)
      ∧ ((lineAt .takeup (some .seat) .closed 100).st 3).actsOnFinding = true
      ∧ (lineAt .takeup (some .seat) .closed 100).failedAlert 3 .fault = [(⟨.opFailed, .station 3, 4⟩, some .shore)] := by
  decide +kernel

/-- A hauled line in TAKEUP whose holder returns, marked for re-queuing. -/
def returningTakeup : State :=
  let d := driven .takeup (some .seat) .haul
  { berthWith .moored { d with
      port := { d.port with
        drive := .hold, brake := .set, handshake := .setting, brakeTimer := .step 1000, stallTimer := none } } with
    holders := [⟨3, 1, .returning .requeue, 0⟩], nextGrant := 1 }

/-- The brake timer at a fault that a report brings (R69, R74): a set watch where the brake was FREE; none where the report ends the
station's own haul (log 32); a handshake step stopped under the quay stop, and a set watch where the brake test of the same report
has had the grant given anew; a set watch that the report ends. -/
theorem witness_ReportFindingsFault_brakes :
    let bad : Report := { reportAt .closed 400 with readings := { (reportAt .closed 400).readings with moduleFault := true } }
    let timer (s : State) (r : Report) := ((after (.stationReport 3 (reportBlock 3 r)) s).st 3).port.brakeTimer
    let premises (s : State) := s.drivesSound && s.arbiterSettled && (s.st 3).actsOnFinding && (s.st 3).port.block.isEmpty
    let takes := { berthWith .moored (driven .takeup (some .seat) .haul) with holders := [⟨3, 1, .active, 0⟩], nextGrant := 1 }
    let d := driven .tending none .haul
    let hauls := { berthWith .moored { d with
      record := { d.record with tending := some ⟨.haul, 1⟩ } } with holders := [⟨3, 1, .active, 0⟩], nextGrant := 1 }
    let l := lineOf .held .closed 400
    let watched := berthWith .moored { l with port := { l.port with brakeTimer := .watch 700 } }
    (premises takes = true ∧ (takes.st 3).port.brake = .free ∧ takes.startsSurge 3 bad = true ∧ (takes.st 3).hauls = false
        ∧ timer takes bad = .watch 1000)
      ∧ (premises hauls = true ∧ (hauls.st 3).port.brake = .free ∧ hauls.startsSurge 3 bad = true ∧ (hauls.st 3).hauls = true
          ∧ timer hauls bad = .stopped)
      ∧ (premises returningTakeup = true ∧ (returningTakeup.st 3).latchLost .open = true
          ∧ timer returningTakeup bad = .stopped ∧ timer returningTakeup (reportAt .open 100) = .watch 1000
          ∧ timer { returningTakeup with quayStop := true } (reportAt .open 100) = .stopped)
      ∧ (premises watched = true ∧ timer watched bad = .stopped) := by decide +kernel

theorem witness_ReconstructionFollowsReport :
    let r := reportAt .closed 400
    let e : Report := { reportAt .open 0 with readings := { (reportAt .open 0).readings with endStop := true } }
    (State.reset.st 3).port.block = [] ∧ (State.reset.st 3).settling = true ∧ State.reset.reload = none
      ∧ r.readings.moduleFault = false ∧ State.reset.jumps 3 r = false ∧ State.reset.overRange 3 r = false
      ∧ State.reset.surges 3 r = false ∧ State.reset.surges 3 e = false ∧ State.reset.overRange 3 e = false
      ∧ State.reset.surges 3 (reportAt .moving 0) = false ∧ State.reset.surges 3 (reportAt .open 0) = false := by decide +kernel

/-- In STARTING with another station settling, with none, and outside STARTING. -/
theorem witness_ReconstructionFollowsReport_phases :
    let s := after (.clearFault (ord .shore 5 [])) unmooring
    let t := after (.stationReport 3 (reportBlock 3 (reportAt .closed 50))) lastSettling
    (State.reset.phase = .starting ∧ (State.reset.st 4).settling = true)
      ∧ ((lastSettling.st 3).settling = true ∧ lastSettling.surges 3 (reportAt .closed 50) = false
          ∧ (∀ j, (t.st j).settling = false) ∧ t.phase = .moored ∧ t.eqr = .arming)
      ∧ ((s.st 5).settling = true ∧ s.phase = .unmooring ∧ s.surges 5 (reportAt .closed 50) = false
          ∧ s.jumps 5 (reportAt .closed 50) = false) := by decide +kernel

/-- A report while a berth reset reloads the profile: of a held line, and of a FAULTED one that brings a finding (R169). -/
theorem witness_ReconstructionFollowsReport_reload :
    let s := after (.berthReset (ord .shore 32 [])) { moored with params := { moored.params with
      berth := { moored.params.berth with reloadOnReset := 1 } } }
    let f := s.modRecord 3 fun r => { r with state := .faulted, faultCause := some .stall }
    let bad : Report := { reportAt .open 400 with readings := { (reportAt .open 400).readings with moduleFault := true } }
    let r := reportAt .closed 400
    ((s.st 3).port.block = [] ∧ s.reload ≠ none ∧ s.stationsSound = true ∧ s.drivesSound = true
        ∧ r.readings.moduleFault = false ∧ s.jumps 3 r = false ∧ s.overRange 3 r = false
        ∧ (s.st 3).brakeFinding r.readings.brake = false ∧ (s.st 3).latchLost r.readings.latch = false
        ∧ (s.st 3).settling = false ∧ (s.st 3).record.state = .held)
      ∧ (f.stationsSound = true ∧ (f.st 3).actsOnFinding = false ∧ bad.readings.moduleFault = true) := by decide +kernel

theorem witness_SeatingTest :
    (PlainReport (lineAt .seating (some .seat) .open 400) 3 (reportAt .closed 400)
        ∧ ((lineAt .seating (some .seat) .open 400).band 3).target
            ≤ (lineAt .seating (some .seat) .open 400).reportTension 3 (reportAt .closed 400).readings)
      ∧ (PlainReport (lineAt .seating (some .seat) .open 399) 3 (reportAt .closed 399)
          ∧ (lineAt .seating (some .seat) .open 399).reportTension 3 (reportAt .closed 399).readings
              < ((lineAt .seating (some .seat) .open 399).band 3).target)
      ∧ PlainReport (lineAt .seating (some .seat) .open 0) 3 (reportAt .moving 0)
      ∧ state3 (lineAt .seating (some .seat) .open 400) = .seating
      ∧ ((lineAt .seating (some .seat) .open 400).st 3).record.operation = some .seat := by
  repeat' first | decide +kernel | constructor

/-- What a station's notice brings: MOORED at the end of a seating, VACANT when the last latch opens, a group that falls short (R5,
R6, R17). -/
theorem witness_PlanFollows :
    let seat := { lineAt .seating (some .seat) .open 400 with phase := .alongside }
    let last := { lineAt .releasing (some .release) .moving 0 with phase := .unmooring }
    (PlainReport seat 3 (reportAt .closed 400)
        ∧ (after (.stationReport 3 (reportBlock 3 (reportAt .closed 400))) seat).phase = .moored)
      ∧ (PlainReport last 3 (reportAt .open 0) ∧ (last.st 3).engaged = true
          ∧ (after (.stationReport 3 (reportBlock 3 (reportAt .open 0))) last).phase = .vacant)
      ∧ fallenShort moored (after (.reportLossTimeout 5) moored) 5 = some 1 := by
  repeat' first | decide +kernel | constructor

theorem witness_TakeUpAndEasingTests :
    (∀ x ∈ [399, 400], PlainReport (lineAt .takeup (some .seat) .closed x) 3 (reportAt .closed x)
        ∧ (lineAt .takeup (some .seat) .closed x).reportTension 3 (reportAt .closed x).readings = x)
      ∧ (∀ x ∈ [50, 51], PlainReport (lineAt .easing (some .release) .closed x) 3 (reportAt .closed x)
          ∧ (lineAt .easing (some .release) .closed x).reportTension 3 (reportAt .closed x).readings = x)
      ∧ roomToPay ((lineFor (lineAt .easing (some .release) .closed 51) (some 40000) none none).reportLength 3
          (reportAt .closed 51)) 40000 = false
      ∧ roomToPay ((lineAt .easing (some .release) .closed 51).reportLength 3 (reportAt .closed 51)) 40000 = true
      ∧ PlainReport (lineFor (lineAt .easing (some .release) .closed 51) (some 40000) none none) 3 (reportAt .closed 51)
      ∧ (reportAt .closed 51).readings.latch = .closed ∧ state3 (lineAt .takeup (some .seat) .closed 400) = .takeup
      ∧ state3 (lineAt .easing (some .release) .closed 50) = .easing := by
  refine ⟨?_, ?_, ?_, ?_, ?_, ?_⟩
  · simp only [List.forall_mem_cons, List.not_mem_nil, false_imp_iff, implies_true, and_true]
    repeat' first | decide +kernel | constructor
  · simp only [List.forall_mem_cons, List.not_mem_nil, false_imp_iff, implies_true, and_true]
    repeat' first | decide +kernel | constructor
  all_goals repeat' first | decide +kernel | constructor

theorem witness_RunOutReleaseRewindEnd :
    PlainReport (lineFor (lineAt .payout (some .runOut) .open 0) (some 5000) (some 5000) none) 3 (reportAt .open 0)
      ∧ (lineFor (lineAt .payout (some .runOut) .open 0) (some 5000) (some 5000) none).reportLength 3 (reportAt .open 0) = some 5000
      ∧ PlainReport (lineFor (lineAt .payout (some .runOut) .open 0) (some 4999) (some 5000) none) 3 (reportAt .open 0)
      ∧ (lineFor (lineAt .payout (some .runOut) .open 0) (some 4999) (some 5000) none).reportLength 3 (reportAt .open 0) = some 4999
      ∧ PlainReport (lineAt .releasing (some .release) .moving 0) 3 (reportAt .open 0)
      ∧ PlainReport (lineAt .releasing (some .release) .moving 0) 3 (reportAt .moving 0)
      ∧ PlainReport (lineAt .rewinding (some .rewind) .open 0) 3
          { reportAt .open 0 with readings := { (reportAt .open 0).readings with endStop := true } }
      ∧ PlainReport (lineAt .rewinding (some .rewind) .open 0) 3 (reportAt .open 0)
      ∧ state3 (lineAt .payout (some .runOut) .open 0) = .payout ∧ state3 (lineAt .releasing (some .release) .moving 0) = .releasing
      ∧ state3 (lineAt .rewinding (some .rewind) .open 0) = .rewinding := by
  repeat' first | decide +kernel | constructor

/-- A held line at a tension with its dwell counters, payout length and tending hold. -/
def heldAt (x hi lo length : Nat) (hold : Bool) : State :=
  (lineFor (lineAt .held none .closed x) (some length) none none
    |>.modTension 3 fun y => { y with hi := hi, lo := lo }) |>.modRecord 3 fun r => { r with tendingHold := hold }

/-- What the clauses of the keeping step in HELD read: the filtered tension after the report and the payout length. -/
def keepingInputs (s : State) (x : Nat) : Nat × Option Nat :=
  (s.reportTension 3 (reportAt .closed x).readings, s.reportLength 3 (reportAt .closed x))

theorem witness_HeldKeeping :
    (PlainReport (heldAt 400 0 0 5000 true) 3 (reportAt .closed 400) ∧ ((heldAt 400 0 0 5000 true).st 3).record.tendingHold = true)
      ∧ (PlainReport (heldAt 1500 0 0 5000 false) 3 (reportAt .closed 1500)
          ∧ keepingInputs (heldAt 1500 0 0 39999 false) 1500 = (1500, some 39999))
      ∧ (PlainReport (heldAt 1500 0 0 40000 false) 3 (reportAt .closed 1500)
          ∧ keepingInputs (heldAt 1500 0 0 40000 false) 1500 = (1500, some 40000))
      ∧ (PlainReport (heldAt 1499 4 0 5000 false) 3 (reportAt .closed 1499)
          ∧ keepingInputs (heldAt 1499 4 0 5000 false) 1499 = (1499, some 5000))
      ∧ (PlainReport (heldAt 551 4 0 40000 false) 3 (reportAt .closed 551)
          ∧ keepingInputs (heldAt 551 4 0 40000 false) 551 = (551, some 40000))
      ∧ (PlainReport (heldAt 299 0 4 5000 false) 3 (reportAt .closed 299)
          ∧ keepingInputs (heldAt 299 0 4 5000 false) 299 = (299, some 5000) ∧ (heldAt 299 0 4 5000 false).surgeTimer = none)
      ∧ (PlainReport (heldAt 551 3 0 5000 false) 3 (reportAt .closed 551) ∧ PlainReport (heldAt 300 0 4 5000 false) 3 (reportAt .closed 300)
          ∧ PlainReport { heldAt 299 0 5 5000 false with surgeTimer := some 10000 } 3 (reportAt .closed 299))
      ∧ (reportAt .closed 400).readings.latch = .closed ∧ state3 (heldAt 1500 0 0 5000 false) = .held
      ∧ ((heldAt 1500 0 0 5000 false).st 3).record.tendingHold = false := by
  repeat' first | decide +kernel | constructor

/-- The same berth with filter shift 0 on station 3, which takes each sample as it is. -/
def unfiltered (s : State) : State :=
  { s with params := { Params.default with calibration := Params.default.calibration.set 3 ⟨0, 400, 0⟩ } }

/-- A sudden load on a held line: the tripping report starts the surge timer too. -/
theorem witness_HeldKeeping_surge :
    PlainReport (unfiltered (heldAt 400 0 0 5000 false)) 3 (reportAt .closed 2000)
      ∧ (unfiltered (heldAt 400 0 0 5000 false)).startsSurge 3 (reportAt .closed 2000) = true
      ∧ ((unfiltered (heldAt 400 0 0 5000 false)).band 3).trip
          ≤ (unfiltered (heldAt 400 0 0 5000 false)).reportTension 3 (reportAt .closed 2000).readings := by
  repeat' first | decide +kernel | constructor

/-- A tending line at a tension. -/
def tendingAt (x length : Nat) (t : Tending) : State := lineFor (lineAt .tending none .closed x) (some length) none (some t)

theorem witness_TendingKeeping_pay :
    (PlainReport (tendingAt 1500 40000 ⟨.pay, 1⟩) 3 (reportAt .closed 1500)
        ∧ keepingInputs (tendingAt 1500 40000 ⟨.pay, 1⟩) 1500 = (1500, some 40000))
      ∧ (PlainReport (tendingAt 1499 40000 ⟨.pay, 0⟩) 3 (reportAt .closed 1499)
          ∧ keepingInputs (tendingAt 1499 40000 ⟨.pay, 0⟩) 1499 = (1499, some 40000))
      ∧ (PlainReport (tendingAt 1500 39999 ⟨.pay, 0⟩) 3 (reportAt .closed 1500)
          ∧ keepingInputs (tendingAt 1500 39999 ⟨.pay, 0⟩) 1500 = (1500, some 39999))
      ∧ PlainReport (tendingAt 1500 39999 ⟨.pay, 1⟩) 3 (reportAt .closed 1500)
      ∧ (PlainReport (tendingAt 430 5000 ⟨.pay, 1⟩) 3 (reportAt .closed 430)
          ∧ keepingInputs (tendingAt 430 5000 ⟨.pay, 1⟩) 430 = (430, some 5000))
      ∧ (PlainReport (tendingAt 431 5000 ⟨.pay, 1⟩) 3 (reportAt .closed 431)
          ∧ keepingInputs (tendingAt 431 5000 ⟨.pay, 1⟩) 431 = (431, some 5000))
      ∧ (reportAt .closed 431).readings.latch = .closed ∧ state3 (tendingAt 431 5000 ⟨.pay, 1⟩) = .tending
      ∧ ((tendingAt 431 5000 ⟨.pay, 1⟩).st 3).record.tending = some ⟨.pay, 1⟩ := by
  repeat' first | decide +kernel | constructor

theorem witness_TendingKeeping_haul :
    PlainReport (tendingAt 1500 39999 ⟨.haul, 1⟩) 3 (reportAt .closed 1500)
      ∧ PlainReport (tendingAt 1500 40000 ⟨.haul, 1⟩) 3 (reportAt .closed 1500)
      ∧ (PlainReport (tendingAt 370 5000 ⟨.haul, 1⟩) 3 (reportAt .closed 370)
          ∧ keepingInputs (tendingAt 370 5000 ⟨.haul, 1⟩) 370 = (370, some 5000))
      ∧ (PlainReport (tendingAt 369 5000 ⟨.haul, 1⟩) 3 (reportAt .closed 369)
          ∧ keepingInputs (tendingAt 369 5000 ⟨.haul, 1⟩) 369 = (369, some 5000))
      ∧ state3 (tendingAt 369 5000 ⟨.haul, 1⟩) = .tending
      ∧ ((tendingAt 369 5000 ⟨.haul, 1⟩).st 3).record.tending = some ⟨.haul, 1⟩ := by
  repeat' first | decide +kernel | constructor

/-- A line that hauls and whose own report starts the surge timer: below the trip value and at it. -/
theorem witness_TendingKeeping_surge :
    (∀ x ∈ [360, 2000], PlainReport (unfiltered (tendingAt 100 5000 ⟨.haul, 1⟩)) 3 (reportAt .closed x))
      ∧ (let s := unfiltered (tendingAt 100 5000 ⟨.haul, 1⟩)
         (∀ x ∈ [360, 2000], s.startsSurge 3 (reportAt .closed x) = true) ∧ (s.st 3).hauls = true
           ∧ s.reportTension 3 (reportAt .closed 360).readings < (s.band 3).trip
           ∧ (s.band 3).trip ≤ s.reportTension 3 (reportAt .closed 2000).readings
           ∧ state3 (after (.stationReport 3 (reportBlock 3 (reportAt .closed 360))) s) = .held
           ∧ state3 (after (.stationReport 3 (reportBlock 3 (reportAt .closed 2000))) s) = .tending
           ∧ (s.st 3).record.tendingHold = false ∧ (s.st 3).record.tending = some ⟨.haul, 1⟩) := by
  refine ⟨?_, by decide +kernel⟩
  simp only [List.forall_mem_cons, List.not_mem_nil, false_imp_iff, implies_true, and_true]
  repeat' first | decide +kernel | constructor

theorem witness_SurgeStartsTimer :
    (moored.st 3).port.block = [] ∧ (moored.st 3).computed = true ∧ moored.surges 3 (reportAt .closed 300) = true
      ∧ moored.surgeTimer = none ∧ { moored with surgeTimer := some 10000 }.surges 3 (reportAt .closed 300) = true := by
  decide +kernel

/-! #### Timers and safety inputs -/

theorem witness_FaultingTimers :
    let l := lineOf .releasing .moving 0
    let all : Station := { l with
      record := { l.record with latchOpenTimer := some 5000 }
      port := { l.port with stallTimer := some 2000, brakeTimer := .step 1000 } }
    let free : Station := { l with
      port := { l.port with brakeTimer := .watch 1000, readings := some ⟨.moving, .free, false, false, 0⟩ } }
    (all.actsOnFinding = true ∧ all.port.reportLossTimer.isSome = true ∧ all.port.brakeTimer.isStep = true
        ∧ all.port.stallTimer.isSome = true ∧ all.record.latchOpenTimer.isSome = true ∧ all.record.state = .releasing)
      ∧ (free.actsOnFinding = true ∧ free.port.brakeTimer = .watch 1000 ∧ free.watchFails = true)
      ∧ (moored.phase ≠ .starting ∧ (moored.st 5).actsOnFinding = true ∧ (moored.st 5).port.reportLossTimer.isSome = true)
      ∧ (lastSettling.phase = .starting ∧ (lastSettling.st 3).actsOnFinding = true
          ∧ (lastSettling.st 3).port.reportLossTimer.isSome = true)
      ∧ (∀ j, ((after (.reportLossTimeout 3) lastSettling).st j).settling = false) := by decide +kernel

/-- The brake timer at a fault by a timer (R69, R74): a drum that stalls while it is driven, a brake that does not free, and one
that does not set. -/
theorem witness_FaultingTimers_brakes :
    let p := driven .payout (some .runOut) .pay
    let drive := held3 (berthWith .moored p)
    let free := held3 (berthWith .moored { p with
      port := { p.port with drive := .hold, handshake := .freeing, brakeTimer := .step 1000, stallTimer := none } })
    let timer (c : Instr) (s : State) := ((after c s).st 3).port.brakeTimer
    ((drive.st 3).actsOnFinding = true ∧ (drive.st 3).port.stallTimer.isSome = true ∧ (drive.st 3).port.brake = .free
        ∧ timer (.stallTimeout 3) drive = .watch 1000)
      ∧ ((free.st 3).port.brakeTimer.isStep = true ∧ (free.st 3).port.brake = .free
          ∧ timer (.brakeTimeout 3) free = .watch 1000)
      ∧ ((returningTakeup.st 3).port.brakeTimer.isStep = true ∧ (returningTakeup.st 3).port.brake = .set
          ∧ timer (.brakeTimeout 3) returningTakeup = .stopped
          ∧ (returningTakeup.st 3).port.reportLossTimer.isSome = true
          ∧ timer (.reportLossTimeout 3) returningTakeup = .stopped) := by decide +kernel

theorem witness_SeatTimeoutReleases :
    let s := (lineAt .seating (some .seat) .open 0).modRecord 3 fun r => { r with seatTimer := some 8000 }
    (s.st 3).record.seatTimer.isSome = true ∧ (s.st 3).record.state = .seating := by decide +kernel

theorem witness_QuietTimers :
    let l := lineOf .held .closed 400
    let w : Station := { l with port := { l.port with brakeTimer := .watch 1000 } }
    let s := { berthWith .moored w with surgeTimer := some 10000, holdoffs := [⟨5, 2000⟩] }
    (s.st 3).port.brakeTimer = .watch 1000 ∧ (s.st 3).watchFails = false ∧ s.surgeTimer.isSome = true
      ∧ s.driveStatus 5 = .holdoff
      ∧ ((unmooring.st 5).port.reportLossTimer.isSome = true ∧ (unmooring.st 5).settling = false
          ∧ (unmooring.st 5).record.state = .faulted ∧ unmooring.phase ≠ .starting)
      ∧ (let f := lineOf .faulted .closed 0
         let x : Station := { f with port := { f.port with
           brakeTimer := .watch 1000, readings := some ⟨.closed, .free, false, false, 0⟩ } }
         x.port.brakeTimer = .watch 1000 ∧ x.watchFails = true ∧ x.actsOnFinding = false)
      ∧ ({ unmooring with phase := .starting }.reload = none
          ∧ ∀ j, ({ unmooring with phase := .starting }.st j).settling = false) := by decide +kernel

theorem witness_ReleaseLineArmsAndAbandons :
    (moored.releaseLine = false ∧ moored.phase ≠ .starting ∧ moored.eqr = .idle)
      ∧ (State.reset.releaseLine = false ∧ State.reset.phase = .starting)
      ∧ (after .vesselReleaseAsserted moored).releaseLine = true ∧ (after .vesselReleaseAsserted moored).eqr = .arming := by
  decide +kernel

theorem witness_FiringOpensLines :
    let s := after .vesselReleaseAsserted moored
    s.eqr = .arming ∧ s.eqrTimer.isSome = true ∧ (s.st 3).settling = false ∧ (s.st 3).record.state = .held
      ∧ (s.st 7).record.state = .stowed
      ∧ ((after .vesselReleaseAsserted unmooring).st 5).record.state = .faulted
      ∧ ((after .vesselReleaseAsserted unmooring).st 5).latchReading ≠ .open
      ∧ (lineAt .easing (some .release) .closed 400).firingAlerts = [(⟨.opFailed, .station 3, 5⟩, some .shore)] := by decide +kernel

/-- The ports of the stations on which the firing acts (R69, R151): a line paid out, one whose motion ends, and one queued behind
it, which the firing has granted when it reaches it (log 7). -/
theorem witness_FiringOpensLines_brakes :
    let armed (s : State) := after .vesselReleaseAsserted s
    let drive := armed (held3 (berthWith .moored (driven .payout (some .runOut) .pay)))
    let q := driven .takeup (some .seat) .haul
    let rests : Station := { q with port := { q.port with
      drive := .off, brake := .set, handshake := .rest, stallTimer := none } }
    let two := { (returningTakeup.modSt 5 fun _ => rests) with queue := [⟨5, 1, none⟩] }
    let full := armed { two with params := { two.params with berth := { two.params.berth with grantLimit := 1 } } }
    (drive.eqr = .arming ∧ drive.drivesSound = true ∧ drive.arbiterSettled = true ∧ drive.queuedAs 3 = none
        ∧ drive.holders.length ≤ drive.berth.grantLimit ∧ (drive.st 3).port.brake = .free
        ∧ ((after .eqrTimerExpiry drive).st 3).port.brakeTimer = .watch 1000)
      ∧ (full.drivesSound = true ∧ full.queuedAs 3 = none ∧ (∀ h, full.holderOf 3 = some h → h.cls ≠ 2)
          ∧ (full.st 3).port.brakeTimer.isStep = true ∧ ((after .eqrTimerExpiry full).st 3).port.brakeTimer = .stopped)
      ∧ (full.queuedAs 5 ≠ none ∧ ((after .eqrTimerExpiry full).st 5).port.brakeTimer = .watch 1000)
      ∧ (drive.driveStatus 4 = .idle ∧ (drive.st 4).record.state = .slack) := by
  refine ⟨by decide +kernel, ⟨by decide +kernel, by decide +kernel, ?_, by decide +kernel, by decide +kernel⟩, by decide +kernel,
    by decide +kernel⟩
  intro h hh
  have : _ = some h := hh
  revert this
  decide +revert +kernel

theorem witness_QuayStopFreezesDrives :
    let s := held3 (berthWith .moored (driven .payout (some .runOut) .pay))
    s.quayStop = false ∧ ⟨3, 2, .active, 0⟩ ∈ s.holders ∧ (s.st 3).port.handshake = .driving
      ∧ (after .quayStopAsserted s).quayStop = true
      ∧ (s.arbiterDistinct = true ∧ (after .quayStopAsserted s).holders = [⟨3, 2, .returning .requeue, 0⟩])
      ∧ (let r := { s with holders := [⟨3, 2, .returning .ended, 0⟩] }
         r.arbiterDistinct = true ∧ r.quayStop = false ∧ (after .quayStopAsserted r).holders = r.holders) := by decide +kernel

/-! #### Station orders -/

theorem witness_RunOutCompletes :
    let s := berthWith .alongside (lineOf .slack .open 0)
    let a := ord .shore 3 [0x88, 0x13]
    ReachesStation s a.link (rowOrder .runOut a) 3 ∧ MayOperate s a.link 3 ∧ a.params.length = 2 ∧ s.phase = .alongside
      ∧ (s.st 3).settling = false ∧ (s.st 3).record.state = .slack ∧ (s.st 3).record.payoutLength = some 5000
      ∧ min (numberOf a.params) (s.band 3).maxPayout = 5000
      ∧ min (numberOf [0x89, 0x13]) (s.band 3).maxPayout = 5001
      ∧ ReachesStation s .shore (rowOrder .runOut (ord .shore 3 [0x89, 0x13])) 3 := by
  repeat' first | decide +kernel | constructor

/-- A RUN_OUT in the wrong phase, on a line in another state, on a settling one, and on one of unknown length. -/
theorem witness_RunOutCompletes_refused :
    let a := ord .shore 3 [0x88, 0x13]
    let unknown := berthWith .alongside { lineOf .slack .open 0 with record := { Record.powerOn with recon := none } }
    let settles := quiet.modRecord 3 fun r => { r with recon := some .berthReset }
    (ReachesStation unmooring .shore (rowOrder .runOut a) 3 ∧ MayOperate unmooring .shore 3 ∧ unmooring.phase ≠ .alongside
        ∧ unmooring.phase ≠ .moored)
      ∧ (ReachesStation moored .shore (rowOrder .runOut a) 3 ∧ MayOperate moored .shore 3 ∧ (moored.st 3).record.state = .held)
      ∧ (ReachesStation settles .shore (rowOrder .runOut a) 3 ∧ MayOperate settles .shore 3 ∧ (settles.st 3).settling = true)
      ∧ (ReachesStation unknown .shore (rowOrder .runOut a) 3 ∧ MayOperate unknown .shore 3 ∧ unknown.phase = .alongside
          ∧ (unknown.st 3).record.payoutLength = none) := by
  repeat' first | decide +kernel | constructor

theorem witness_SeatCompletes :
    let s := berthWith .moored (lineOf .presented .open 0)
    let a := ord .vessel 3 []
    ReachesStation s a.link (rowOrder .seat a) 3 ∧ MayOperate s a.link 3 ∧ a.params = [] ∧ s.phase = .moored
      ∧ (s.st 3).settling = false ∧ (s.st 3).record.state = .presented := by
  repeat' first | decide +kernel | constructor

/-- A SEAT in the wrong phase, and on a line in another state; a REWIND on a line in HELD. -/
theorem witness_SeatCompletes_refused :
    let a := ord .shore 3 []
    (ReachesStation unmooring .shore (rowOrder .seat a) 3 ∧ MayOperate unmooring .shore 3 ∧ unmooring.phase ≠ .alongside
        ∧ unmooring.phase ≠ .moored)
      ∧ (ReachesStation moored .shore (rowOrder .seat a) 3 ∧ MayOperate moored .shore 3 ∧ moored.phase = .moored
          ∧ (moored.st 3).record.state = .held)
      ∧ ReachesStation moored .shore (rowOrder .rewind a) 3 := by
  repeat' first | decide +kernel | constructor

theorem witness_ReleaseCompletes :
    let a := ord .quay 3 []
    ∀ x ∈ [50, 51],
      ReachesStation (berthWith .moored (lineOf .held .closed x)) a.link (rowOrder .release a) 3
        ∧ MayOperate (berthWith .moored (lineOf .held .closed x)) a.link 3 ∧ a.params = []
        ∧ (berthWith .moored (lineOf .held .closed x)).phase = .moored
        ∧ ((berthWith .moored (lineOf .held .closed x)).st 3).settling = false
        ∧ ((berthWith .moored (lineOf .held .closed x)).st 3).record.state = .held
        ∧ (berthWith .moored (lineOf .held .closed x)).releaseGate 3 = none
        ∧ ((berthWith .moored (lineOf .held .closed x)).st 3).tension.filtered = some x
        ∧ ((berthWith .moored (lineOf .held .closed x)).band 3).releaseLimit = 50 := by
  simp only [List.forall_mem_cons, List.not_mem_nil, false_imp_iff, implies_true, and_true]
  repeat' first | decide +kernel | constructor

/-- A HELD line whose grant of an ended motion is still returning; a TENDING line that holds a grant of class 0; one queued at
class 0. -/
theorem witness_ReleaseCompletes_request :
    let held := driven .held none .hold
    let back := { berthWith .moored { held with
      port := { held.port with brake := .set, handshake := .setting, brakeTimer := .step 1000, stallTimer := none } } with
      holders := [⟨3, 1, .returning .ended, 0⟩] }
    let tending (l : Station) : Station := { l with record := { l.record with tending := some ⟨.pay, 0⟩ } }
    let holder := { berthWith .moored (tending (driven .tending none .pay)) with holders := [⟨3, 0, .active, 0⟩] }
    let queued := { berthWith .moored (tending (lineOf .tending .closed 400)) with queue := [⟨3, 0, none⟩], quayStop := true }
    (back.drivesSound = true ∧ holder.drivesSound = true ∧ queued.drivesSound = true)
      ∧ (back.releaseGate 3 = none ∧ holder.releaseGate 3 = none ∧ queued.releaseGate 3 = none)
      ∧ (back.holderOf 3 = some ⟨3, 1, .returning .ended, 0⟩ ∧ holder.holderOf 3 = some ⟨3, 0, .active, 0⟩
          ∧ queued.queuedAs 3 = some ⟨3, 0, none⟩)
      ∧ (holder.takesNow .shore (rowOrder .release (ord .shore 3 [])) = true
          ∧ queued.takesNow .shore (rowOrder .release (ord .shore 3 [])) = true) := by decide +kernel

theorem witness_ReleaseChecksInOrder :
    moored.takesNow .shore (rowOrder .release (ord .shore 2 [])) = true ∧ targetOf 2 = .station 2
      ∧ moored.belowMinimum 2 = false ∧ moored.belowMinimum 4 = true ∧ unmooring.outOfSequence 2 = true
      ∧ unmooring.takesNow .shore (rowOrder .release (ord .shore 2 [])) = true := by decide +kernel

/-- The terms of the checks: a sound configuration, group 0 under local control, a RELEASE in flight that another master owns, and
one that no master owns; the level of a master taken away. -/
theorem witness_ReleaseChecksInOrder_terms :
    let local_ := { moored with localControl := moored.localControl.set 0 true }
    let owned (m : Option Master) := moored.modRecord 2 fun r => { r with operation := some .release, owner := m }
    (moored.params.sound = true ∧ moored.belowMinimum 4 = true ∧ moored.belowMinimum 2 = false ∧ unmooring.outOfSequence 2 = true)
      ∧ (local_.heldLocal .shore 2 = true ∧ local_.heldLocal .quay 2 = false ∧ local_.heldLocal .shore 4 = false)
      ∧ ((owned (some .vessel)).ownedByOther .shore 2 = true ∧ (owned (some .shore)).ownedByOther .shore 2 = false
          ∧ (owned none).ownedByOther .shore 2 = false)
      ∧ (∃ p, moored.params.write 4 8 1 = some p ∧ { moored with params := p }.mayOrder .vessel 2 = false
          ∧ { moored with params := p }.mayOrder .vessel 4 = true) := by
  refine ⟨by decide +kernel, by decide +kernel, by decide +kernel, ?_⟩
  exact ⟨_, rfl, by decide +kernel, by decide +kernel⟩

/-- One state for each refusal of the six rows. -/
theorem witness_ReleaseChecksInOrder_rows :
    let a := ord .shore 2 []
    let local_ := { moored with localControl := moored.localControl.set 0 true }
    let owned := moored.modRecord 2 fun r => { r with operation := some .release, owner := some .vessel }
    let barred := { moored with params := (moored.params.write 4 0 1).getD moored.params }
    orderOfRow (.clearFault a) = some (.shore, rowOrder .clearFault a)
      ∧ (ReachesStation local_ .shore (rowOrder .clearFault a) 2 ∧ local_.mayOrder .shore 2 = true
          ∧ local_.heldLocal .shore 2 = true)
      ∧ (ReachesStation owned .shore (rowOrder .seat a) 2 ∧ owned.mayOrder .shore 2 = true ∧ owned.heldLocal .shore 2 = false
          ∧ owned.ownedByOther .shore 2 = true
          ∧ (rowOrder .seat a).code ∉ [(rowOrder .tend a).code, (rowOrder .clearFault a).code])
      ∧ (ReachesStation barred .shore (rowOrder .tend a) 2 ∧ barred.mayOrder .shore 2 = false) := by
  repeat' first | decide +kernel | constructor

theorem witness_RewindCompletes :
    ReachesStation quiet .shore (rowOrder .rewind (ord .shore 3 [])) 3 ∧ MayOperate quiet .shore 3 ∧ (ord .shore 3 []).params = []
      ∧ (quiet.st 3).settling = false ∧ (quiet.st 3).record.state = .slack ∧ quiet.driveStatus 3 = .idle := by
  repeat' first | decide +kernel | constructor

theorem witness_RewindCompletes_payout :
    let s := { berthWith .vacant (lineOf .payout .open 0) with holdoffs := [⟨3, 2000⟩] }
    ReachesStation s .shore (rowOrder .rewind (ord .shore 3 [])) 3 ∧ MayOperate s .shore 3
      ∧ (s.st 3).record.state = .payout ∧ s.driveStatus 3 = .holdoff := by
  repeat' first | decide +kernel | constructor

/-- A drum that pays out reverses; a RUN_OUT in the queue and in FREEING; a grant that returns to a SLACK line. -/
theorem witness_RewindCompletes_grant :
    let l := driven .payout (some .runOut) .pay
    let drives := held3 (berthWith .alongside l)
    let freeing := held3 (berthWith .alongside { l with port := { l.port with
      drive := .hold, handshake := .freeing, brakeTimer := .step 500, stallTimer := none } })
    let queued := { (lineFor (lineAt .payout (some .runOut) .open 0) (some 10) (some 6000) none) with
      queue := [⟨3, 2, none⟩], quayStop := true }
    let slack := lineOf .slack .open 0
    let back := { berthWith .alongside { slack with port := { slack.port with
        drive := .hold, handshake := .setting, brakeTimer := .step 500 } } with
      holders := [⟨3, 2, .returning .ended, 0⟩], nextGrant := 1 }
    let rewinds (s : State) := s.takesNow .shore (rowOrder .rewind (ord .shore 3 [])) ∧ s.phase ≠ .starting
      ∧ MayOperate s .shore 3 ∧ (s.st 3).settling = false ∧ s.drivesSound = true
    (rewinds drives ∧ drives.holderOf 3 = some ⟨3, 2, .active, 0⟩ ∧ (drives.st 3).port.drive = .pay
        ∧ ((after (.rewind (ord .shore 3 [])) drives).st 3).port.drive = .haul)
      ∧ (rewinds freeing ∧ freeing.holderOf 3 = some ⟨3, 2, .active, 0⟩ ∧ (freeing.st 3).port.handshake = .freeing)
      ∧ (rewinds queued ∧ queued.queuedAs 3 = some ⟨3, 2, none⟩ ∧ (queued.st 3).record.state = .payout)
      ∧ (rewinds back ∧ back.holderOf 3 = some ⟨3, 2, .returning .ended, 0⟩ ∧ (back.st 3).record.state = .slack) := by
  repeat' first | decide +kernel | constructor

/-- STOP, TEND and the others on each state of R21. -/
theorem witness_StopCompletes :
    ∀ x ∈ [LineState.payout, .rewinding, .seating, .takeup, .tending, .easing, .held, .stowed, .slack, .presented, .releasing,
        .faulted, .outOfService],
      (berthWith .moored (lineOf x .open 0)).takesNow .quay (rowOrder .stop (ord .quay 3 [])) = true
        ∧ (berthWith .moored (lineOf x .open 0)).phase ≠ .starting ∧ targetOf 3 = .station 3
        ∧ (berthWith .moored (lineOf x .open 0)).mayObserve .quay 3 = true
        ∧ ((berthWith .moored (lineOf x .open 0)).st 3).settling = false
        ∧ ((berthWith .moored (lineOf x .open 0)).st 3).record.state = x := by decide +kernel

/-- A STOP of a line that pays out with a grant, of one in the queue and of one in holdoff; of a settling line; and by a master that
may not observe the line. -/
theorem witness_StopCompletes_drive :
    let o := rowOrder .stop (ord .shore 3 [])
    let drives := held3 (berthWith .alongside (driven .payout (some .runOut) .pay))
    let slack := berthWith .alongside (lineOf .payout .open 0)
    let queued := { slack with queue := [⟨3, 2, none⟩], quayStop := true }
    let waits := { slack with holdoffs := [⟨3, 2000⟩] }
    let settles := quiet.modRecord 3 fun r => { r with recon := some .berthReset }
    let barred := { quiet with params := (quiet.params.write 4 6 0).getD quiet.params }
    let stops (s : State) := s.takesNow .shore o = true ∧ s.phase ≠ .starting ∧ s.mayObserve .shore 3 = true
      ∧ (s.st 3).settling = false ∧ s.drivesSound = true ∧ s.arbiterSettled = true ∧ (s.st 3).request.isSome = true
    (stops drives ∧ drives.holderOf 3 = some ⟨3, 2, .active, 0⟩ ∧ (drives.st 3).port.handshake = .driving)
      ∧ (stops queued ∧ queued.holderOf 3 = none ∧ queued.driveStatus 3 = .queued 2)
      ∧ (stops waits ∧ waits.holderOf 3 = none ∧ waits.driveStatus 3 = .holdoff)
      ∧ (settles.takesNow .shore o = true ∧ settles.mayObserve .shore 3 = true ∧ (settles.st 3).settling = true)
      ∧ (barred.takesNow .shore o = true ∧ barred.mayObserve .shore 3 = false ∧ barred.mayObserve .quay 3 = true) := by
  decide +kernel

theorem witness_TendAndClearFaultComplete :
    let s := heldAt 400 0 0 5000 true
    (ReachesStation s .shore (rowOrder .tend (ord .shore 3 [])) 3 ∧ s.mayOrder .shore 3 = true ∧ s.heldLocal .shore 3 = false
        ∧ (s.st 3).settling = false ∧ (s.st 3).record.state = .held ∧ (s.st 3).record.tendingHold = true)
      ∧ (ReachesStation unmooring .shore (rowOrder .clearFault (ord .shore 5 [])) 5 ∧ unmooring.mayOrder .shore 5 = true
          ∧ unmooring.heldLocal .shore 5 = false ∧ (unmooring.st 5).settling = false ∧ (unmooring.st 5).record.state = .faulted
          ∧ (unmooring.st 5).record.faultCause = some .reportLost ∧ (unmooring.st 5).ConditionAbsent .reportLost) := by
  repeat' first | decide +kernel | exact ⟨_, rfl, by decide +kernel⟩ | constructor

/-- A faulted line for a cause, with its latest readings and its saturated mark. -/
def faultedFor (cause : FaultCause) (r : Readings) (sinceFault saturated : Bool) : Station :=
  let l := lineOf .faulted r.latch 0
  { record := { l.record with faultCause := some cause, faultCount := 1 }
    port := { l.port with readings := some r, reportSinceFault := sinceFault }
    tension := { l.tension with saturated := saturated } }

/-- R47 by hand: for each cause a station with the condition absent and one with it present; the refused TEND and CLEAR_FAULT. -/
theorem witness_TendAndClearFaultComplete_causes :
    let ok : Readings := ⟨.closed, .set, false, false, 0⟩
    (∀ c, (faultedFor c ok true false).ConditionAbsent c)
      ∧ (∀ c ∈ [FaultCause.latchLost, .latchStuck], ¬(faultedFor c { ok with latch := .moving } true false).ConditionAbsent c)
      ∧ (∀ c ∈ [FaultCause.brake, .stall], ¬(faultedFor c { ok with brake := .free } true false).ConditionAbsent c)
      ∧ (∀ c ∈ [FaultCause.encoder, .reportLost], ¬(faultedFor c ok false false).ConditionAbsent c)
      ∧ ¬(faultedFor .module { ok with moduleFault := true } true false).ConditionAbsent .module
      ∧ ¬(faultedFor .loadRange ok true true).ConditionAbsent .loadRange
      ∧ (let s := berthWith .moored (faultedFor .brake { ok with brake := .free } true false)
         ReachesStation s .shore (rowOrder .clearFault (ord .shore 3 [])) 3 ∧ s.mayOrder .shore 3 = true
           ∧ s.heldLocal .shore 3 = false ∧ (s.st 3).record.faultCause = some .brake)
      ∧ (ReachesStation quiet .shore (rowOrder .tend (ord .shore 3 [])) 3 ∧ (quiet.st 3).record.state ≠ .held) := by
  refine ⟨?_, ?_, ?_, ?_, ?_, ?_, ?_, ?_⟩
  · intro c; cases c <;> exact ⟨_, rfl, by decide⟩
  · simp [Station.ConditionAbsent, faultedFor]
  · simp [Station.ConditionAbsent, faultedFor]
  · simp [Station.ConditionAbsent, faultedFor, lineOf]
  · simp [Station.ConditionAbsent, faultedFor]
  · simp [Station.ConditionAbsent, faultedFor]
  all_goals repeat' first | decide +kernel | constructor

theorem witness_ServiceOrdersComplete :
    let a := ord .shore 3 []
    let out : Order := { rowOrder .setService a with params := [0] }
    let back : Order := { rowOrder .setService a with params := [1] }
    let s := berthWith .moored (lineOf .outOfService .open 0)
    let f := berthWith .moored (lineOf .faulted .open 0)
    (ReachesStation quiet .shore out 3 ∧ (quiet.st 3).record.state = .slack ∧ quiet.driveStatus 3 = .idle)
      ∧ (ReachesStation f .shore out 3 ∧ (f.st 3).record.state = .faulted ∧ (f.st 3).latchReading = .open)
      ∧ (ReachesStation s .shore back 3 ∧ (s.st 3).settling = false ∧ (s.st 3).record.state = .outOfService)
      ∧ (ReachesStation quiet .vessel out 3 ∧ ReachesStation quiet .quay back 3)
      ∧ (ReachesStation moored .shore out 3 ∧ (moored.st 3).record.state = .held)
      ∧ (ReachesStation moored .shore back 3 ∧ (moored.st 3).record.state ≠ .outOfService) := by
  repeat' first | decide +kernel | constructor

/-- All stations and a group; a row with parameters; orders that some station takes and orders that none takes. -/
theorem witness_OrdersOnSeveralStations :
    let held := heldAt 400 0 0 5000 true
    (((.tend, 0) : (OrderArgs → Instr) × Nat) ∈ stationRows ∧ ((.runOut, 2) : (OrderArgs → Instr) × Nat) ∈ stationRows
        ∧ ((.setServiceIn, 0) : (OrderArgs → Instr) × Nat) ∈ stationRows)
      ∧ (held.takesNow .shore (rowOrder .tend (ord .shore 31 [])) = true ∧ held.phase ≠ .starting ∧ targetOf 31 = .all
          ∧ (held.st 3).record.tendingHold = true)
      ∧ (moored.takesNow .shore (rowOrder .runOut (ord .shore 16 [0, 4])) = true ∧ moored.phase ≠ .starting
          ∧ targetOf 16 = .group 0 ∧ (moored.group 0).enabled = true ∧ (moored.group 0).first ≤ (moored.group 0).last)
      ∧ moored.takesNow .shore { rowOrder .setService (ord .shore 31 []) with params := [1] } = true
      ∧ ((inTurn .tend (ord .shore 31 []) (held.targetStations .all) held).map fun r => r.2.map fun x => takenByte x.2)
          = some (allStations.map fun i => decide (i = 3))
      ∧ ((inTurn .runOut (ord .shore 16 [0, 4]) (moored.targetStations (.group 0)) moored).map fun r =>
          r.2.any fun x => takenByte x.2) = some false := by
  refine ⟨⟨by simp [stationRows], by simp [stationRows], by simp [stationRows]⟩, ?_⟩
  decide +kernel

/-- Such an order under way, before its first station's turn and after its last. -/
theorem witness_OrdersOnSeveralStations_turns :
    (.release, 0) ∈ stationRows
      ∧ orderOfRow (.release (ord .shore 16 [])) = some (.shore, rowOrder .release (ord .shore 16 []))
      ∧ releasingGroup.underWay = some ⟨.shore, rowOrder .release (ord .shore 16 []), [0, 1, 2, 3], []⟩
      ∧ releasingGroup.reload = none ∧ releasingGroup.phase ≠ .starting
      ∧ (releasingGroup.served 4).underWay
          = some ⟨.shore, rowOrder .release (ord .shore 16 []), [],
              [(0, none), (1, none), (2, some .planMinimum), (3, some .planMinimum)]⟩ :=
  ⟨by simp [stationRows], by decide +kernel⟩

/-! #### Berth orders -/

theorem witness_SetPhaseCompletes :
    ReachesBerth (berthOf .vacant fun _ => lineOf .slack .open 0) .shore (rowOrder .setPhase (ord .shore 32 [2]))
      ∧ ReachesBerth moored .shore (rowOrder .setPhase (ord .shore 32 [4])) ∧ moored.authority .shore 7 = .order
      ∧ ReachesBerth quiet .shore (rowOrder .setPhase (ord .shore 32 [1])) ∧ quiet.phase = .alongside ∧ quiet.engagedCount = 0
      ∧ { moored with phase := .alongside }.engagedCount ≠ 0
      ∧ ReachesBerth moored .shore (rowOrder .setPhase (ord .shore 32 [3]))
      ∧ (let barred := { moored with params := (moored.params.write 4 15 1).getD moored.params }
         ReachesBerth barred .vessel (rowOrder .setPhase (ord .vessel 32 [4])) ∧ barred.authority .vessel 7 ≠ .order) := by
  repeat' first | decide +kernel | constructor

theorem witness_LocalControlOrders :
    moored.phase ≠ .starting ∧ targetOf 16 = .group 0 ∧ (moored.group 0).enabled = true
      ∧ moored.takesNow .quay (rowOrder .takeLocal (ord .quay 16 [])) = true
      ∧ moored.takesNow .quay (rowOrder .giveLocal (ord .quay 16 [])) = true
      ∧ moored.takesNow .shore (rowOrder .takeLocal (ord .shore 16 [])) = true
      ∧ moored.takesNow .vessel (rowOrder .giveLocal (ord .vessel 16 [])) = true := by decide +kernel

theorem witness_BerthResetCompletes :
    ReachesBerth unmooring .shore (rowOrder .berthReset (ord .shore 32 [])) ∧ unmooring.saving = none
      ∧ unmooring.berth.reloadOnReset ≠ 1 ∧ (unmooring.st 4).record.state = .held ∧ (unmooring.st 5).record.state = .faulted
      ∧ (let t := after (.berthReset (ord .shore 32 [])) (berthOf .moored fun _ => lineOf .faulted .closed 0)
         (∀ i, (t.st i).settling = false) ∧ t.phase = .alongside) := by
  repeat' first | decide +kernel | constructor

/-- The two refusals; a berth reset that finds a brake FREE, one SET with a handshake step running, and one SET with a set watch
running (R59, R69; log 34). -/
theorem witness_BerthResetCompletes_brakes :
    let reset := Instr.berthReset (ord .shore 32 [])
    let drives := held3 (berthWith .moored (driven .payout (some .runOut) .pay))
    let l := lineOf .held .closed 400
    let watched := berthWith .moored { l with port := { l.port with brakeTimer := .watch 700 } }
    (ReachesBerth moored .vessel (rowOrder .berthReset (ord .vessel 32 []))
        ∧ ReachesBerth { moored with saving := some [] } .shore (rowOrder .berthReset (ord .shore 32 [])))
      ∧ ((drives.st 3).port.brake = .free ∧ ((after reset drives).st 3).port.brakeTimer = .watch 1000)
      ∧ ((returning3.st 3).port.brake = .set ∧ (returning3.st 3).port.brakeTimer = .step 1000
          ∧ ((after reset returning3).st 3).port.brakeTimer = .stopped)
      ∧ ((watched.st 3).port.brake = .set ∧ ((after reset watched).st 3).port.brakeTimer = .watch 700) := by
  repeat' first | decide +kernel | constructor

/-- A berth that reloads its profile on a berth reset. -/
def reloading : State := { moored with params := tuned }

theorem witness_ReloadCompletes :
    ReachesBerth reloading .shore (rowOrder .berthReset (ord .shore 32 [])) ∧ reloading.saving = none
      ∧ reloading.berth.reloadOnReset = 1
      ∧ (after (.berthReset (ord .shore 32 [])) reloading).reload = some ⟨rowOrder .berthReset (ord .shore 32 []), true⟩
      ∧ (after (.berthReset (ord .shore 32 [])) reloading).phase = .starting ∧ moored.phase ≠ .starting
      ∧ (reloading.st 3).record.payoutLength = some 5000
      ∧ ((after (.berthReset (ord .shore 32 [])) reloading).st 3).record.payoutLength = some 5000
      ∧ (after (.berthReset (ord .shore 32 [])) reloading).stationsSound = true := by
  repeat' first | decide +kernel | constructor

theorem witness_ParameterOrdersComplete :
    let s := { quiet with phase := .vacant }
    ReachesBerth s .shore (rowOrder .setParam (ord .shore 32 [2, 0, 3, 0, 0, 0])) ∧ s.saving = none ∧ s.phase = .vacant
      ∧ (s.params.write 2 0 3).isSome = true ∧ s.params.write 2 24 3 = none ∧ (s.params.write 5 0 1).isSome = true
      ∧ (s.params.write 2 0 16).isSome = true
      ∧ ReachesBerth s .shore (rowOrder .setParam (ord .shore 32 [2, 24, 3, 0, 0, 0]))
      ∧ s.takesNow .quay (rowOrder .getParam (ord .quay 32 [5, 0])) = true ∧ targetOf 32 = .berth
      ∧ s.params.read 5 0 = some 4 ∧ s.params.read 5 14 = none
      ∧ ReachesBerth quiet .vessel (rowOrder .setParam (ord .vessel 32 [2, 0, 3, 0, 0, 0]))
      ∧ ReachesBerth { quiet with saving := some [] } .shore (rowOrder .setParam (ord .shore 32 [2, 0, 3, 0, 0, 0]))
      ∧ ReachesBerth quiet .shore (rowOrder .setParam (ord .shore 32 [2, 0, 3, 0, 0, 0])) ∧ quiet.saving = none
      ∧ quiet.phase ≠ .vacant := by
  repeat' first | decide +kernel | constructor

/-- The example of R114: the grant limit lowered from 4 to 1 with three drums turning, granted 3, 9, 6. -/
def turning : State :=
  let l := driven .payout (some .runOut) .pay
  { berthOf .moored fun i => if i = 3 ∨ i = 6 ∨ i = 9 then l else lineOf .slack .open 0 with
    holders := [⟨3, 2, .active, 0⟩, ⟨9, 2, .active, 1⟩, ⟨6, 2, .active, 2⟩], nextGrant := 3 }

theorem witness_ParameterOrdersComplete_limit :
    ReachesBerth turning .shore (rowOrder .setParam (ord .shore 32 [5, 0, 1, 0, 0, 0])) ∧ turning.saving = none
      ∧ turning.drivesSound = true ∧ (turning.params.write 5 0 1).isSome = true
      ∧ (after (.setParam (ord .shore 32 [5, 0, 1, 0, 0, 0])) turning).holders
          = [⟨3, 2, .active, 0⟩, ⟨9, 2, .returning .requeue, 1⟩, ⟨6, 2, .returning .requeue, 2⟩] := by
  repeat' first | decide +kernel | constructor

/-- A write of the shore's attention threshold over an alert of level 1. -/
theorem witness_ParameterOrdersComplete_threshold :
    let s := { quiet with mailboxes := State.reset.mailboxes }
    ReachesBerth s .shore (rowOrder .setParam (ord .shore 32 [5, 10, 2, 0, 0, 0])) ∧ s.saving = none
      ∧ (s.params.write 5 10 2).isSome = true ∧ (s.mailboxes.get .shore).attention = true
      ∧ ((after (.setParam (ord .shore 32 [5, 10, 2, 0, 0, 0])) s).mailboxes.get .shore).attention = false := by
  repeat' first | decide +kernel | constructor

/-- R77, R91, R133, R134: values outside their range, at the bounds that the rules name. -/
theorem test_write_ranges :
    (Params.default.write 1 1 0).bind (fun p => p.read 1 1) = some 1
      ∧ (Params.default.write 1 7 5000).bind (fun p => p.read 1 7) = some 4000 ∧ Params.default.write 1 4 600 = none
      ∧ Params.default.write 3 0 4 = none ∧ (Params.default.write 4 0 2).isSome = true ∧ Params.default.write 4 0 3 = none
      ∧ (Params.default.write 5 11 0).bind (fun p => p.read 5 11) = some 1 ∧ Params.default.write 5 11 4 = none := by
  decide +kernel

theorem witness_WriteChangesOneItem :
    (KnownItem 1 250 ∧ ¬KnownItem 1 251 ∧ KnownItem 3 62 ∧ ¬KnownItem 3 63 ∧ ¬KnownItem 0 0 ∧ ¬KnownItem 5 14)
      ∧ (plan.RangeTaken 0 3 5 ∧ ¬plan.RangeTaken 0 3 3 ∧ 15 < plan.groups[(3 : Fin 6)].first)
      ∧ BandOrder 300 400 550 30 1500 50 ∧ ¬BandOrder 300 600 550 30 1500 50 := by
  refine ⟨by simp [KnownItem], ⟨⟨1, by decide +kernel⟩, ?_, by decide +kernel⟩, by unfold BandOrder; decide⟩
  rintro ⟨k, hk⟩
  revert k
  decide +kernel

theorem witness_WriteChangesOneItem_same :
    (Params.default.write 2 0 3).isSome = true ∧ tuned.sound = true ∧ tuned.read 1 51 = some 250 := by decide +kernel

theorem witness_OverlapIsRefused :
    (∀ j : Fin 6, plan.groups[j].enabled = true → plan.groups[j].first ≤ plan.groups[j].last)
      ∧ plan.groups[(0 : Fin 6)].enabled = true ∧ plan.groups[(0 : Fin 6)].first ≤ min 15 5
      ∧ ReachesBerth { quiet with phase := .vacant, params := plan } .shore (rowOrder .setParam (ord .shore 32 [2, 1, 5, 0, 0, 0]))
      ∧ plan.write 2 1 5 = none := by
  repeat' first | decide +kernel | constructor

theorem witness_SaveWritesProfile :
    let s := { quiet with phase := .vacant }
    ReachesBerth s .shore (rowOrder .profileSave (ord .shore 32 [])) ∧ s.saving = none ∧ s.phase = .vacant
      ∧ ReachesBerth s .quay (rowOrder .profileSave (ord .quay 32 []))
      ∧ ReachesBerth { s with saving := some [] } .shore (rowOrder .profileSave (ord .shore 32 []))
      ∧ ReachesBerth quiet .shore (rowOrder .profileSave (ord .shore 32 [])) ∧ quiet.phase ≠ .vacant
      ∧ Memory.wf s.memory = true ∧ (saveEntries tuned).length ≤ 340
      ∧ (saveEntries tuned).all (fun e => e.table < 256 ∧ e.index < 256 ∧ e.value < 4294967296) = true
      ∧ readsBack (savedMemory s.memory (saveEntries tuned) [(9, 77)]) (saveEntries tuned) = false := by
  repeat' first | decide +kernel | constructor

theorem witness_PowerOnDuringSave :
    { quiet with saving := some (saveEntries tuned) }.saving = some (saveEntries tuned) ∧ Memory.wf quiet.memory = true
      ∧ 1 ≤ (verifiedWrites (saveEntries tuned)).length
      ∧ (after (.powerOn false false true 0) { quiet with saving := some [], memory := [(0, 0xC3), (1, 1), (2, 0), (3, 0)] }).profile
          = ⟨.loaded, 0, 0⟩ := by decide +kernel

theorem witness_HeaderIsJudged :
    imageByte true [] 0 = 0xFF ∧ imageByte true [(0, 0xC3)] 0 = 0xC3 ∧ imageByte true [(0, 0xC3)] 1 ≠ 1
      ∧ imageByte true [(0, 0xC3), (1, 1)] 0 = 0xC3 ∧ imageByte true [(0, 0xC3), (1, 1)] 1 = 1 := by decide

/-- An image of four entries: grant limit 9, clamped to 6; an unknown table; grant limit 2; an index past the group table. -/
def image : List Host.Cell :=
  [(0, 0xC3), (1, 1), (2, 25), (3, 0), (4, 5), (5, 0), (6, 9), (7, 0), (8, 0), (9, 0), (10, 9), (11, 0), (12, 1), (13, 0), (14, 0),
    (15, 0), (16, 5), (17, 0), (18, 2), (19, 0), (20, 0), (21, 0), (22, 2), (23, 24), (24, 1), (25, 0), (26, 0), (27, 0)]

/-- R164, R165 by hand: 25 bytes are four entries and a trailing byte; two are taken, the later one overriding, and two refused. -/
theorem witness_HeaderIsJudged_loaded :
    let t := { State.reset with memory := image }.loadProfile true
    imageResult true image = .loaded ∧ (imageEntries true image)[2]? = some ⟨5, 0, 2⟩
      ∧ t.profile = ⟨.loaded, 2, 2⟩ ∧ t.params.berth = { Params.default.berth with grantLimit := 2 } := by decide +kernel

/-- R162: a power-on that loads that image, the quay stop asserted. -/
theorem witness_PowerOnStartsAnew_loaded :
    let t := after (.powerOn false true true 0) { State.reset with memory := image }
    ({ State.reset with memory := image }).saving = none ∧ t.profile = ⟨.loaded, 2, 2⟩ ∧ t.params.berth.grantLimit = 2
      ∧ shoreAlerts t = [(.quayStop, 1), (.profile, 1)] := by decide +kernel

theorem witness_SavedConfigurationReloads : tuned.sound = true := by decide +kernel

theorem witness_HistoryRingResets :
    let s := (berthWith .moored (lineOf .outOfService .open 0)).modTension 3 fun x => { x with history := [5] }
    let t := after (.setServiceIn (ord .shore 3 [])) s
    exec (.setServiceIn (ord .shore 3 [])) s = .next t ∧ (s.st 3).settling = false ∧ (t.st 3).settling = true
      ∧ (State.reset.st 3).port.block = [] ∧ (State.reset.st 3).computed = true ∧ (State.reset.st 3).tension.history = []
      ∧ (State.reset.st 3).tension.seedPending = true ∧ moored.underWay = none := by
  refine ⟨rfl, ?_⟩
  decide +kernel

/-! #### Queries and alerts -/

theorem witness_QueriesAnswer :
    ReachesStation moored .vessel (rowOrder .getStation (ord .vessel 3 [])) 3 ∧ moored.mayObserve .vessel 3 = true
      ∧ ReachesStation moored .vessel (rowOrder .readHistory (ord .vessel 3 [])) 3
      ∧ moored.takesNow .quay (rowOrder .getBerth (ord .quay 32 [])) = true ∧ targetOf 32 = .berth
      ∧ (let barred := { moored with params := (moored.params.write 4 8 0).getD moored.params }
         barred.mayObserve .vessel 3 = false ∧ ReachesStation barred .vessel (rowOrder .getStation (ord .vessel 3 [])) 3
           ∧ ReachesStation barred .vessel (rowOrder .readHistory (ord .vessel 3 [])) 3) := by
  repeat' first | decide +kernel | constructor

theorem witness_FetchAlertTakesHead :
    ReachesBerth { moored with mailboxes := State.reset.mailboxes } .shore (rowOrder .fetchAlert (ord .shore 32 []))
      ∧ State.reset.mailboxes.shore.entries ≠ [] ∧ (moored.mailboxes.get .shore).entries = []
      ∧ ReachesBerth moored .shore (rowOrder .fetchAlert (ord .shore 32 [])) := by
  repeat' first | decide +kernel | constructor

/-- A full queue of level-1 entries. -/
def fullQueue : Mailbox :=
  { entries := (List.range 32).map fun n => ⟨.fault, .berth, n, 1, 1, n⟩, nextRank := 32, lost := false, attention := true }

theorem witness_OfferedAlertsJoin :
    fullQueue.sound 1 = true ∧ (fullQueue.entries.all fun e => !e.equals ⟨.phase, .berth, 1⟩) = true
      ∧ 32 ≤ fullQueue.entries.length ∧ fullQueue.entries.getLast?.isSome = true
      ∧ (fullQueue.entries.any fun e => e.equals ⟨.fault, .berth, 31⟩) = true
      ∧ State.reset.mailboxes.shore.sound 1 = true ∧ State.reset.mailboxes.shore.entries.length < 32 := by decide +kernel

/-! #### Invariants -/

/-- A berth with a drive turning, and a report waiting. -/
def working : State :=
  let l := driven .payout (some .runOut) .pay
  { held3 (berthWith .moored l) with pending := [.stationReport 3 (reportBlock 3 (reportAt .open 0))] }

theorem witness_StepKeeps :
    ∃ t, step working = .next t ∧ Memory.wf working.memory = true ∧ working.tensionSound = true ∧ working.alertsSound = true
      ∧ working.drivesSound = true ∧ working.arbiterSettled = true ∧ working.params.sound = true
      ∧ working.stationsSound = true :=
  ⟨_, rfl, by decide +kernel⟩

/-- Neither is owed; a holdoff that ends in a new grant; a grant kept under the quay stop. -/
theorem witness_GrantsFollowRules :
    let s := { berthWith .moored (lineFor (lineAt .payout (some .runOut) .open 0) (some 10) (some 6000) none |>.st 3) with
      holdoffs := [⟨3, 2000⟩], pending := [.holdoffExpiry 3] }
    (∃ t, working.queue = [] ∧ working.holders.length < working.berth.grantLimit ∧ step working = .next t)
      ∧ (∃ t, s.drivesSound = true ∧ s.holders = [] ∧ step s = .next t ∧ t.holders = [⟨3, 2, .active, 0⟩])
      ∧ ∃ t, { working with quayStop := true }.quayStop = true ∧ (Instr.surgeTimerExpiry ≠ .quayStopReleased)
          ∧ exec .surgeTimerExpiry { working with quayStop := true } = .next t ∧ t.holders ≠ [] :=
  ⟨⟨_, by decide +kernel, by decide +kernel, rfl⟩, ⟨_, by decide +kernel, by decide +kernel, rfl, by decide +kernel⟩,
    ⟨_, rfl, by decide, rfl, by decide +kernel⟩⟩

/-- Station 3 pays out on the only grant, and a load of 1500 tu lies on station 5 in HELD. -/
def overloaded : State :=
  { berthOf .moored fun i =>
      if i = 3 then driven .payout (some .runOut) .pay
      else if i = 5 then lineOf .held .closed 1500 else lineOf .slack .open 0 with
    params := { Params.default with berth := { Params.default.berth with grantLimit := 1 } }
    holders := [⟨3, 2, .active, 0⟩], nextGrant := 1 }

/-- The hypotheses on the Arbiter's tests met, each with a preemption of station 3 for station 5, which stands at the queue head. -/
theorem witness_GrantsFollowRules_preempted :
    PlainReport overloaded 5 (reportAt .closed 1500)
      ∧ (let r := reportAt .closed 1500
         let t := after (.stationReport 5 (reportBlock 5 r)) overloaded
         overloaded.surges 5 r = false ∧ overloaded.drivesSound = true
           ∧ (overloaded.band 5).trip ≤ overloaded.reportTension 5 r.readings
           ∧ roomToPay (overloaded.reportLength 5 r) (overloaded.band 5).maxPayout = true ∧ overloaded.driveStatus 5 = .idle
           ∧ t.holders = [⟨3, 2, .returning .preempted, 0⟩] ∧ t.queue = [⟨5, 0, none⟩]
           ∧ t.mailboxes.quay.entries.map (fun e => (e.kind, e.subject, e.detail))
               = [(.overload, .station 5, 1), (.preempted, .station 3, 5)])
      ∧ (let s := { overloaded with queue := [⟨5, 0, none⟩], quayStop := true }
         s.arbiterDistinct = true ∧ (after .quayStopReleased s).holders = [⟨3, 2, .returning .preempted, 0⟩])
      ∧ (let s := { overloaded with holdoffs := [⟨6, 2000⟩] }.modRecord 6 fun x => { x with state := .payout }
         s.drivesSound = true ∧ s.driveStatus 6 = .holdoff) := by
  refine ⟨?_, by decide +kernel⟩
  repeat' first | decide +kernel | constructor

theorem witness_FaultFieldsAreSticky :
    let s := { working with pending := [.stallTimeout 3] }
    (∃ t, (∀ r q m n rest, s.pending ≠ .powerOn r q m n :: rest) ∧ step s = .next t ∧ (s.st 3).actsOnFinding = true
        ∧ (t.st 3).record.faultCount = 1)
      ∧ ∃ t, (∀ r q m n rest, moored.pending ≠ .powerOn r q m n :: rest) ∧ step moored = .next t :=
  ⟨⟨_, by simp, rfl, by decide +kernel⟩, ⟨_, by simp [show moored.pending = [] from rfl], rfl⟩⟩

end Sys2Proof.Tests
end

section
/-! R13: a write of a group's first or last that would make two enabled groups share a station. -/

namespace Sys2Proof.Machine

/-! ### Groups that share a station -/

theorem Group.contains_iff (g : Group) (i : Nat) :
    g.contains i = true ↔ g.enabled = true ∧ g.first ≤ i ∧ i ≤ g.last := by
  simp [Group.contains, and_assoc]

theorem Group.overlaps_iff (g h : Group) :
    g.overlaps h = true ↔ g.enabled = true ∧ h.enabled = true ∧ g.first ≤ h.last ∧ h.first ≤ g.last := by
  simp [Group.overlaps, and_assoc]

/-- R13: the comparison of the bounds finds a shared station, once an enabled group's range is not empty (R10). The higher of the two
firsts is such a station. -/
theorem Group.overlaps_iff_shares {g h : Group} (hg : g.enabled = true → g.first ≤ g.last)
    (hh : h.enabled = true → h.first ≤ h.last) :
    g.overlaps h = true ↔ ∃ i, h.contains i = true ∧ g.contains i = true := by
  simp only [Group.overlaps_iff, Group.contains_iff]
  constructor
  · rintro ⟨eg, eh, hgh, hhg⟩
    exact ⟨max g.first h.first, ⟨eh, le_max_right _ _, max_le hgh (hh eh)⟩, eg, le_max_left _ _, max_le (hg eg) hhg⟩
  · rintro ⟨i, ⟨eh, hfirst, hlast⟩, eg, gfirst, glast⟩
    exact ⟨eg, eh, gfirst.trans hlast, hfirst.trans glast⟩

theorem groupFits_eq_false_iff (groups : Vector Group 6) (n : Fin 6) (g : Group) :
    groupFits groups n.val g = false ↔ ∃ j : Fin 6, j ≠ n ∧ g.overlaps groups[j] = true := by
  simp [groupFits, List.all_eq_false, Fin.ext_iff]

/-- R13: a record does not fit as group `n` exactly when another group contains a station that it contains. -/
theorem groupFits_eq_false_iff_shares {groups : Vector Group 6}
    (hordered : ∀ j : Fin 6, groups[j].enabled = true → groups[j].first ≤ groups[j].last) (n : Fin 6) {g : Group}
    (hg : g.first ≤ g.last) :
    groupFits groups n.val g = false
      ↔ ∃ j : Fin 6, j ≠ n ∧ ∃ i, groups[j].contains i = true ∧ g.contains i = true := by
  rw [groupFits_eq_false_iff]
  exact exists_congr fun j => and_congr_right fun _ => Group.overlaps_iff_shares (fun _ => hg) (hordered j)

/-! ### Writes of first and last -/

/-- R10, R13: a first of 16 or more disables the group, whatever the others contain. -/
theorem writeGroup_first_disables (groups : Vector Group 6) (n : Fin 6) {v : Nat} (hv : 16 ≤ v) :
    writeGroup groups n 0 v = some (groups.set n.val { groups[n] with first := 255 } n.isLt) := by
  simp [writeGroup, hv]

/-- R13: a group's minimum has no part in the overlap. -/
theorem groupFits_minimum (groups : Vector Group 6) (n : Nat) (g : Group) (m : Nat) :
    groupFits groups n { g with minimum := m } = groupFits groups n g := rfl

/-- R12, R13: a first of 15 or less is refused exactly when the range it would give, its last raised to it, does not fit. -/
theorem writeGroup_first_eq_none_iff (groups : Vector Group 6) (n : Fin 6) {v : Nat} (hv : v < 16) :
    writeGroup groups n 0 v = none
      ↔ groupFits groups n.val { groups[n] with first := v, last := max groups[n].last v } = false := by
  rw [← groupFits_minimum groups n.val _ (min groups[n].minimum (max groups[n].last v + 1 - v))]
  simp [writeGroup, Nat.not_le.mpr hv]

/-- R12, R13: a last of an enabled group that is not below its first is refused exactly when the range it would give does not
fit. -/
theorem writeGroup_last_eq_none_iff (groups : Vector Group 6) (n : Fin 6) {v : Nat} (henabled : groups[n].enabled = true)
    (hv : groups[n].first ≤ min 15 v) :
    writeGroup groups n 1 v = none ↔ groupFits groups n.val { groups[n] with last := min 15 v } = false := by
  have hclamp : clamp 0 15 v = min 15 v := Nat.zero_max _
  rw [← groupFits_minimum groups n.val _ (min groups[n].minimum (min 15 v + 1 - groups[n].first))]
  simp only [writeGroup, hclamp, henabled, if_true, Nat.not_lt.mpr hv, if_false]
  simp

/-! ### A parameter order refused RANGE -/

/-- R122: an order that passes the first three checks and is refused by the block it concerns. -/
theorem wholeOrder_error {c : OrderCode} {v : Verdict} {work : Target → State → Except Verdict (State × Reply)} {o : Order}
    {s : State} (hw : s.refusedWhole c o = none) (h : work (targetOf o.target) s = .error v) :
    wholeOrder c work o s = (s, .plain v) := by simp [wholeOrder, hw, h]

/-- R132: the row of SET_PARAM. -/
theorem exec_setParam (a : OrderArgs) (s : State) :
    exec (.setParam a) s = .next (s.giveOrder a.link (rowOrder .setParam a) orderSetParam) := by
  rfl

/-- R122: steps 1 to 3 pass for a SET_PARAM of six parameter bytes that reaches the berth. -/
theorem refusedWhole_setParam {s : State} {m : Master} {a : OrderArgs} (h : ReachesBerth s m (rowOrder .setParam a))
    (hlen : a.params.length = 6) : s.refusedWhole .setParam (rowOrder .setParam a) = none := by
  obtain ⟨_, hstarted, htarget⟩ := h
  refine State.refusedWhole_passes hstarted ?_ ?_
  · simp [formatGood, rowOrder, OrderCode.paramCount, hlen]
  · simp [htarget, OrderCode.targetKind, State.targetGood]

/-- R133: from the shore link, outside a save and, for the group table, in VACANT, a value that the keeping block refuses is
refused RANGE. -/
theorem workSetParam_range {s : State} {table index v : Nat} (hsaving : s.saving = none)
    (hphase : table = 2 → s.phase = .vacant) (hwrite : s.params.write table index v = none) :
    workSetParam .shore table index v s = .error .range := by
  simpa [workSetParam, shoreOnly, State.writeParam, hsaving, hwrite] using hphase

/-- R122, R133: SET_PARAM of a value that the keeping block refuses changes nothing but its answer. -/
theorem exec_setParam_range {s : State} {a : OrderArgs} {table index v0 v1 v2 v3 : Byte}
    (h : ReachesBerth s .shore (rowOrder .setParam a)) (hlink : a.link = .shore)
    (hparams : a.params = [table, index, v0, v1, v2, v3]) (hsaving : s.saving = none)
    (hphase : table.toNat = 2 → s.phase = .vacant)
    (hwrite : s.params.write table.toNat index.toNat
      (v0.toNat + 256 * (v1.toNat + 256 * (v2.toNat + 256 * v3.toNat))) = none) :
    exec (.setParam a) s
      = .next (((s.taken .shore (rowOrder .setParam a)).answer .shore (rowOrder .setParam a) (.plain .range)).sendSets) := by
  have hwhole := refusedWhole_setParam h (by simp [hparams])
  have hwork : orderSetParam .shore (rowOrder .setParam a) (s.taken .shore (rowOrder .setParam a))
      = (s.taken .shore (rowOrder .setParam a), some (.plain .range)) := by
    have hrange := workSetParam_range (s := s.taken .shore (rowOrder .setParam a)) hsaving hphase hwrite
    rw [orderSetParam, wholeOrder_error (by simpa using hwhole)]
    simpa [firstParam, indexParam, valueParam, rowOrder, hparams, numberOf] using hrange
  rw [exec_setParam, hlink, State.giveOrder_answered h.takes hwork]

/-- Settles O44: the range that a write would give is compared with every other group's, and two ranges that are not empty cross
exactly when they share a station; a refused write is answered RANGE by the order. -/
theorem overlapIsRefused : Obligations.OverlapIsRefused := by
  refine ⟨fun groups n v hordered => ⟨fun hv => ?_, fun henabled hv => ?_, writeGroup_first_disables groups n⟩, ?_, ?_⟩
  · rw [writeGroup_first_eq_none_iff groups n hv]
    exact groupFits_eq_false_iff_shares hordered n (le_max_right _ _)
  · rw [writeGroup_last_eq_none_iff groups n henabled hv]
    exact groupFits_eq_false_iff_shares hordered n hv
  · intro s a index v0 v1 v2 v3 h hlink hparams hsaving hphase hwrite
    exact ⟨_, exec_setParam_range h hlink hparams hsaving (fun _ => hphase) hwrite, rfl, Answered.of_work ⟨rfl, rfl⟩ _⟩
  · decide

end Sys2Proof.Machine
end

section
/-! R79: the scaling of a sample and the convergent rounding it uses. -/

namespace Sys2Proof.Machine

/-! ### Convergent rounding -/

/-- 00_scope, Arithmetic: what convergent rounding makes of `q * w + r`, the rest `r` being within 0..q-1. -/
theorem convergent_mul_add {q : Nat} {w r : Int} (hr : 0 ≤ r) (hrq : r < q) :
    convergent (q * w + r) q
      = if 2 * r < q then w else if 2 * r > q then w + 1 else if w % 2 = 0 then w else w + 1 := by
  have hq : (q : Int) ≠ 0 := by omega
  have hwhole : (q * w + r) / (q : Int) = w := by
    rw [Int.mul_add_ediv_left _ _ hq, Int.ediv_eq_zero_of_lt hr hrq, add_zero]
  have hrest : (q * w + r) % (q : Int) = r := by rw [Int.mul_add_emod_self_left, Int.emod_eq_of_lt hr hrq]
  simp only [convergent, hwhole, hrest]

/-- Every integer is `q * w + r` with the rest `r` within 0..q-1. -/
theorem exists_whole_rest (p : Int) {q : Nat} (hq : 0 < q) : ∃ w r : Int, p = q * w + r ∧ 0 ≤ r ∧ r < q :=
  ⟨p / q, p % q, (Int.mul_ediv_add_emod p q).symm, Int.emod_nonneg p (by omega), Int.emod_lt_of_pos p (by omega)⟩

/-- 00_scope, Arithmetic: convergent rounding gives a nearest integer, and at a tie the even one. -/
theorem convergent_nearest (p : Int) {q : Nat} (hq : 0 < q) :
    2 * (p - q * convergent p q).natAbs ≤ q ∧ (2 * (p - q * convergent p q).natAbs = q → convergent p q % 2 = 0) := by
  obtain ⟨w, r, rfl, hr, hrq⟩ := exists_whole_rest p hq
  have hdown : (q : Int) * w + r - q * w = r := by ring
  have hup : (q : Int) * w + r - q * (w + 1) = r - q := by ring
  rw [convergent_mul_add hr hrq]
  split_ifs <;> simp only [hdown, hup] <;> omega

/-- 00_scope, Arithmetic: negative values are rounded alike. The rest of `-p` is 0, or what the rest of `p` leaves of `q`. -/
theorem convergent_neg (p : Int) {q : Nat} (hq : 0 < q) : convergent (-p) q = -convergent p q := by
  obtain ⟨w, r, rfl, hr, hrq⟩ := exists_whole_rest p hq
  rw [convergent_mul_add hr hrq]
  obtain rfl | hpositive := hr.eq_or_lt
  · rw [show -((q : Int) * w + 0) = q * -w + 0 by ring, convergent_mul_add hr hrq]
    split_ifs <;> omega
  · rw [show -((q : Int) * w + r) = q * (-w - 1) + (q - r) by ring, convergent_mul_add (by omega) (by omega)]
    split_ifs <;> omega

/-! ### Stage 1 -/

/-- R79: a sample at or below the zero offset scales to 0. -/
theorem scaleSample_below {c : Calibration} {sample : Nat} (h : sample ≤ c.zeroOffset) : scaleSample c sample = 0 := by
  simp [scaleSample, h]

/-- R80: a tension within the range is not saturated. -/
theorem Tension.limit_unsaturated {t : Nat} (h : t ≤ maxTension) (x : Tension) : (x.limit t).saturated = false := by
  simp [Tension.limit, Nat.not_lt.mpr h]

/-- R79: a product divided by 4096 and rounded, in natural numbers. -/
theorem convergent_4096 (p : Nat) :
    (convergent p 4096).toNat
      = if p % 4096 < 2048 then p / 4096
        else if 2048 < p % 4096 then p / 4096 + 1
        else if p / 4096 % 2 = 0 then p / 4096 else p / 4096 + 1 := by
  have h := convergent_mul_add (q := 4096) (w := (p / 4096 : Nat)) (r := (p % 4096 : Nat)) (by omega) (by omega)
  rw [show ((4096 : Nat) : Int) * (p / 4096 : Nat) + (p % 4096 : Nat) = p by omega] at h
  rw [h]
  split_ifs <;> omega

/-- R79: a sample above the zero offset scales to its difference times the gain, over 4096, rounded. -/
theorem scaleSample_above {c : Calibration} {sample : Nat} (h : c.zeroOffset < sample) :
    scaleSample c sample = (convergent (((sample - c.zeroOffset) * c.gain : Nat) : Int) 4096).toNat := by
  simp [scaleSample, Nat.not_le.mpr h]

/-- R79: the product of two numbers of 16 bits is at most 4,294,836,225. -/
theorem product_le {sample gain : Nat} (offset : Nat) (hs : sample ≤ 65535) (hg : gain ≤ 65535) :
    (sample - offset) * gain ≤ 4294836225 :=
  Nat.mul_le_mul ((Nat.sub_le _ _).trans hs) hg

theorem scaleSample_le {c : Calibration} {sample : Nat} (hs : sample ≤ 65535) (hg : c.gain ≤ 65535) :
    scaleSample c sample ≤ 1048544 := by
  obtain h | h := le_or_gt sample c.zeroOffset
  · simp [scaleSample_below h]
  · have hp := product_le c.zeroOffset hs hg
    rw [scaleSample_above h, convergent_4096]
    split_ifs <;> omega

/-- Settles O13: each clause is a lemma on stage 1 or on the rounding; the bound of R79 is met by the largest sample and gain. -/
theorem scalingRoundsToNearest : Obligations.ScalingRoundsToNearest := by
  refine ⟨fun c sample => ⟨fun h => ?_, fun h => ?_, fun hs hg => ⟨product_le _ hs hg, scaleSample_le hs hg⟩⟩, ?_, ?_⟩
  · rw [scaleSample_below h]
    exact ⟨rfl, Tension.limit_unsaturated (Nat.zero_le _)⟩
  · exact (scaleSample_above h).trans (convergent_4096 _)
  · decide
  · exact fun p q hq => ⟨(convergent_nearest p hq).1, (convergent_nearest p hq).2, convergent_neg p hq⟩

end Sys2Proof.Machine
end

section
/-! R88: the history rings. What empties them, what the seeding sample puts in, and what leaves them as they are. -/

namespace Sys2Proof.Machine

/-! ### What keeps every history ring -/

/-- The history rings of the sixteen stations (R87). -/
def State.histories (s : State) (i : StationNo) : List Nat := (s.st i).tension.history

theorem State.histories_apply (s : State) (i : StationNo) : s.histories i = (s.st i).tension.history := rfl

theorem DriveWork.histories {s t : State} (h : DriveWork s t) : t.histories = s.histories :=
  funext fun i => congrArg Tension.history (h.tension i)

theorem PlanWork.histories {s t : State} (h : PlanWork s t) : t.histories = s.histories :=
  funext fun i => congrArg (fun st => st.tension.history) (h.st i)

theorem State.modSt_histories (s : State) (i : StationNo) {f : Station → Station}
    (h : (f (s.st i)).tension.history = (s.st i).tension.history) : (s.modSt i f).histories = s.histories := by
  funext j
  by_cases hj : j = i
  · subst hj
    simpa [State.histories] using h
  · simp [State.histories, hj]

@[simp] theorem State.modRecord_histories (s : State) (i : StationNo) (f : Record → Record) :
    (s.modRecord i f).histories = s.histories := s.modSt_histories i rfl

@[simp] theorem State.modPort_histories (s : State) (i : StationNo) (f : Port → Port) :
    (s.modPort i f).histories = s.histories := s.modSt_histories i rfl

theorem State.modTension_histories (s : State) (i : StationNo) {f : Tension → Tension} (h : ∀ x, (f x).history = x.history) :
    (s.modTension i f).histories = s.histories := s.modSt_histories i (h _)

@[simp] theorem State.raiseBy_histories (s : State) (r : Vector (PerMaster Nat) 16) (a : Alert) (o : Option Master) :
    (s.raiseBy r a o).histories = s.histories := rfl

@[simp] theorem State.raise_histories (s : State) (k : AlertKind) (x : Subject) (d : Nat) :
    (s.raise k x d).histories = s.histories := rfl

@[simp] theorem State.raiseOwned_histories (s : State) (k : AlertKind) (x : Subject) (d : Nat) (o : Option Master) :
    (s.raiseOwned k x d o).histories = s.histories := rfl

@[simp] theorem State.sendSets_histories (s : State) : s.sendSets.histories = s.histories := by
  funext j
  simp [State.histories]

@[simp] theorem State.answer_histories (s : State) (m : Master) (o : Order) (r : Reply) :
    (s.answer m o r).histories = s.histories := rfl

theorem State.reload_histories (s : State) (r : Option Reload) : { s with reload := r }.histories = s.histories := rfl

/-- Every station changed by one function that leaves its ring. -/
theorem State.histories_of_map {s t : State} {f : Station → Station} (h : t.stations = s.stations.map f)
    (hf : ∀ st, (f st).tension.history = st.tension.history) : t.histories = s.histories := by
  funext j
  simp [State.histories, State.st, h, hf]

/-! ### The Sequencer -/

section
variable (s : State) (i : StationNo)

@[simp] theorem State.noticeFrom_histories (b : State) : (s.noticeFrom b i).histories = s.histories :=
  (s.noticeFrom_work b i).histories

@[simp] theorem State.enterPhase_histories (p : Phase) : (s.enterPhase p).histories = s.histories :=
  (s.enterPhase_work p).histories

@[simp] theorem State.commandLatch_histories (c : LatchCommand) : (s.commandLatch i c).histories = s.histories :=
  s.modSt_histories i rfl

@[simp] theorem State.portSafe_histories : (s.portSafe i).histories = s.histories := (s.portSafe_work i).histories

@[simp] theorem State.removeAtOnce_histories : (s.removeAtOnce i).histories = s.histories :=
  (s.removeAtOnce_work i).histories

/-- R100: entry to HELD puts the dwell counters to 0, and no state touches the ring. -/
@[simp] theorem State.enterState_histories (state : LineState) (tending : Option Tending) :
    (s.enterState i state tending).histories = s.histories := by
  refine (s.enterState_work i state tending).histories.trans (s.modSt_histories i ?_)
  unfold Station.enter
  split <;> rfl

@[simp] theorem State.enterReleasing_histories : (s.enterReleasing i).histories = s.histories := by
  simp [State.enterReleasing]

@[simp] theorem State.endOperation_histories (failure : Option FailReason) :
    (s.endOperation i failure).histories = s.histories := by
  funext j
  by_cases hj : j = i
  · subst hj
    rw [State.histories_apply, s.endOperation_st]
    rfl
  · exact congrArg Tension.history ((s.endOperation_onlyStation i failure).others j hj).2.1

@[simp] theorem State.moveEnding_histories (state : LineState) (failure : Option FailReason) :
    (s.moveEnding i state failure).histories = s.histories := by simp [State.moveEnding]

@[simp] theorem State.enterFaulted_histories (cause : FaultCause) : (s.enterFaulted i cause).histories = s.histories := by
  simp [State.enterFaulted]

/-- R53, R81: the beginning of reconstruction makes the seeding sample due and keeps the ring. -/
@[simp] theorem State.beginReconstruction_histories (why : Reconstruction) :
    (s.beginReconstruction i why).histories = s.histories := by
  unfold State.beginReconstruction
  rw [State.modSt_histories _ i rfl]
  simp

@[simp] theorem State.settleBy_histories (r : Readings) : (s.settleBy i r).histories = s.histories := by
  unfold State.settleBy
  split
  · simp
  · split <;> simp

@[simp] theorem State.raiseCleared_histories (why : Option Reconstruction) : (s.raiseCleared i why).histories = s.histories := by
  unfold State.raiseCleared
  split <;> simp

@[simp] theorem State.reconstruct_histories (r : Readings) : (s.reconstruct i r).histories = s.histories := by
  simp [State.reconstruct]

/-! ### Tension keeping -/

@[simp] theorem State.keepTo_histories (state : LineState) (tending : Option Tending) :
    (s.keepTo i state tending).histories = s.histories := by simp [State.keepTo]

@[simp] theorem State.overload_histories (d : Nat) : (s.overload i d).histories = s.histories := rfl

@[simp] theorem State.lengthLimit_histories (d : Nat) : (s.lengthLimit i d).histories = s.histories := rfl

@[simp] theorem State.lowerCounters_histories (dwell : Nat) :
    (s.modTension i (Tension.lowerCounters dwell)).histories = s.histories := s.modTension_histories i fun _ => rfl

theorem Tension.countDwell_history (b : Band) (surging : Bool) (f : Nat) (x : Tension) :
    (x.countDwell b surging f).history = x.history := by
  unfold Tension.countDwell
  split_ifs <;> rfl

@[simp] theorem State.testDwell_histories (b : Band) : (s.testDwell i b).histories = s.histories := by
  have hlowered : (s.modTension i fun x => { x with hi := b.dwell - 1 }).histories = s.histories :=
    s.modTension_histories i fun _ => rfl
  unfold State.testDwell
  split_ifs <;> simp [hlowered]

@[simp] theorem State.keepHeld_histories (f : Nat) : (s.keepHeld i f).histories = s.histories := by
  unfold State.keepHeld
  dsimp only
  split_ifs <;> simp [State.modTension_histories, Tension.countDwell_history]

@[simp] theorem State.keepPay_histories (cls f : Nat) : (s.keepPay i cls f).histories = s.histories := by
  unfold State.keepPay
  dsimp only
  split_ifs <;> simp

@[simp] theorem State.keepHaul_histories (f : Nat) : (s.keepHaul i f).histories = s.histories := by
  unfold State.keepHaul
  dsimp only
  split_ifs <;> simp

@[simp] theorem State.keepTension_histories : (s.keepTension i).histories = s.histories := by
  unfold State.keepTension
  split
  · split_ifs <;> simp
  · split <;> simp
  · rfl

/-! ### The Sequencer's work on a report -/

@[simp] theorem State.testSeating_histories (r : Readings) : (s.testSeating i r).histories = s.histories := by
  unfold State.testSeating
  dsimp only
  split_ifs <;> simp

@[simp] theorem State.testEasing_histories : (s.testEasing i).histories = s.histories := by
  unfold State.testEasing
  split_ifs <;> simp

@[simp] theorem State.testPayout_histories : (s.testPayout i).histories = s.histories := by
  unfold State.testPayout
  split
  · dsimp only
    split_ifs <;> simp
  · rfl

@[simp] theorem State.testReleasing_histories (r : Readings) : (s.testReleasing i r).histories = s.histories := by
  unfold State.testReleasing
  split_ifs <;> simp

@[simp] theorem State.testRewinding_histories (r : Readings) : (s.testRewinding i r).histories = s.histories := by
  unfold State.testRewinding
  split_ifs <;> simp

@[simp] theorem State.testState_histories (r : Readings) : (s.testState i r).histories = s.histories := by
  unfold State.testState
  split
  case h_2 => split_ifs <;> simp
  all_goals simp

@[simp] theorem State.workReport_histories (r : Readings) : (s.workReport i r).histories = s.histories := by
  unfold State.workReport
  split_ifs <;> simp

@[simp] theorem State.sequencerReport_histories (r : Readings) (cause : Option FaultCause) :
    (s.sequencerReport i r cause).histories = s.histories := by
  unfold State.sequencerReport
  split
  · split_ifs <;> simp
  · simp

@[simp] theorem State.latchNotice_histories (b : Station) : (s.latchNotice i b).histories = s.histories :=
  (s.latchNotice_work i b).histories

@[simp] theorem State.armQuickRelease_histories : s.armQuickRelease.histories = s.histories := rfl

@[simp] theorem State.endStarting_histories : s.endStarting.histories = s.histories := by
  unfold State.endStarting
  dsimp only
  split_ifs <;> simp

/-- R61, R78: of the steps on a taken report, the Tension Unit's alone touch the ring. -/
theorem State.takeReport_histories (r : Report) :
    (s.takeReport i r).histories
      = (let read := s.modSt i (Station.takeReadings s.berth.reportLossInterval s.berth.stallInterval r)
         if (read.st i).computed then read.computeTension i r.readings else read).histories := by
  unfold State.takeReport
  dsimp only
  have hbraked : ∀ (b : Bool) (u : State), (if b then u else u.testBrake i r.readings.brake).histories = u.histories := by
    intro b u
    cases b
    · exact (u.testBrake_work i _).histories
    · rfl
  rw [State.endStarting_histories, State.latchNotice_histories, State.sequencerReport_histories, hbraked]

end

/-! ### The seeding sample -/

/-- R81, R87: a seeding sample is the filtered tension, and in an empty ring the first value. -/
theorem Tension.sampled_history_seed (c : Calibration) (t : Nat) {x : Tension} (hseed : x.seedPending = true)
    (hempty : x.history = []) : (x.sampled c t).history = [limitTension t] := by
  have hlimit : (x.limit t).history = [] := by rw [← hempty]; unfold Tension.limit; split <;> rfl
  have hfiltered : x.filterTo c.filterShift (limitTension t) = limitTension t := by simp [Tension.filterTo, hseed]
  simp [Tension.sampled, Tension.filterStage, pushHistory, hlimit, hfiltered, ringCapacity]

/-- R82: a seeding sample makes no surge test. -/
theorem Tension.surges_seed {x : Tension} (hseed : x.seedPending = true) (step t : Nat) : x.surges step t = false := by
  simp [Tension.surges, hseed]

/-- R78, R81, R87: the ring after the seeding sample of a station whose ring is empty. -/
theorem State.takeReport_seed {s : State} {i : StationNo} (r : Report) (hcomputed : (s.st i).computed = true)
    (hempty : (s.st i).tension.history = []) (hseed : (s.st i).tension.seedPending = true) :
    (s.takeReport i r).histories i = [limitTension (s.sampleTension i r.readings)] := by
  rw [State.takeReport_histories]
  simp only [State.st_modSt_same, Station.takeReadings_computed, hcomputed, if_true]
  rw [State.computeTension_quiet _ _ _ (by simp [Tension.surges_seed, hseed]), State.histories_apply]
  simp only [State.st_modTension_same, State.st_modSt_same, Station.takeReadings_tension]
  exact Tension.sampled_history_seed _ _ hseed hempty

/-! ### The report block -/

theorem byteOf_append (x : BitVec 16) : byteOf (x.toNat / 256) ++ byteOf x.toNat = x := by
  apply BitVec.eq_of_toNat_eq
  have := x.isLt
  simp only [byteOf, BitVec.toNat_append, BitVec.toNat_ofNat]
  rw [← Nat.shiftLeft_add_eq_or_of_lt (by omega), Nat.shiftLeft_eq]
  omega

/-- Section 3.2: each of the 24 sensor bytes gives back the readings it was made of. -/
theorem sensorByte_reads (latch : Latch) (brake : Brake) (endStop moduleFault : Bool) :
    let sensors := byteOf (latch.code + 4 * brake.code + bitAt 3 endStop + bitAt 4 moduleFault)
    latchField sensors = some latch ∧ (if sensors[2] then Brake.free else .set) = brake
      ∧ sensors[3] = endStop ∧ sensors[4] = moduleFault := by
  cases latch <;> cases brake <;> cases endStop <;> cases moduleFault <;> decide

/-- R60, section 3.2: the block that carries a report is taken as that report. -/
theorem parseReport_reportBlock (i : StationNo) (r : Report) : parseReport i (reportBlock i r) = some r := by
  have hnumber : (byteOf i.val).toNat = i.val := by simp only [byteOf, BitVec.toNat_ofNat]; omega
  obtain ⟨hlatch, hbrake, hend, hfault⟩ :=
    sensorByte_reads r.readings.latch r.readings.brake r.readings.endStop r.readings.moduleFault
  simp [parseReport, reportBlock, le16, checkBytes, sensorBits, readingsOf, byteOf_append, hnumber, hlatch, hbrake, hend, hfault]

/-- R60: with no partial block before it, a report's block is completed by its last byte. -/
theorem receiveReportBytes_reportBlock {s : State} {i : StationNo} (hblock : (s.st i).port.block = []) (r : Report) :
    receiveReportBytes i (reportBlock i r) s = s.completeBlock i (reportBlock i r) :=
  receiveReportBytes_block s i _ _ _ _ _ _ _ _ hblock

/-- R60, R61: a report's block leaves the rings that taking the report leaves. -/
theorem receiveReportBytes_histories {s : State} {i : StationNo} (hblock : (s.st i).port.block = []) (r : Report) :
    (receiveReportBytes i (reportBlock i r) s).histories = (s.takeReport i r).histories := by
  rw [receiveReportBytes_reportBlock hblock]
  simp [State.completeBlock, parseReport_reportBlock]

/-! ### Orders -/

/-- From `s` to `t` every station's record and tension items are as they were. -/
def SameItems (s t : State) : Prop := ∀ j, (t.st j).record = (s.st j).record ∧ (t.st j).tension = (s.st j).tension

theorem SameItems.of_stations {s t : State} (h : t.stations = s.stations) : SameItems s t := fun j => by
  simp [State.st, h]

theorem SameItems.sendSets {s t : State} (h : t.stations = s.stations) : SameItems s t.sendSets := fun j => by
  have hst := SameItems.of_stations h j
  simpa using hst

theorem SameItems.histories {s t : State} (h : SameItems s t) : t.histories = s.histories :=
  funext fun j => congrArg Tension.history (h j).2

/-! R121, R129: a property that the stations' records and tension items decide, and that one station's work keeps, is kept by a
station order's whole row. -/

section
variable {P : State → Prop} (hsame : ∀ {s t : State}, P s → SameItems s t → P t)
variable {work : StationWork} (hwork : ∀ {j : StationNo} {s t : State}, work j s = .ok t → P s → P t)
include hsame hwork

theorem State.workTurn_keeps {s : State} (w : OrderUnderWay) (i : StationNo) (rest : List StationNo) (h : P s) :
    P (s.workTurn w work i rest) := by
  unfold State.workTurn
  split
  · rename_i hok
    exact hsame (hwork hok h) (.sendSets rfl)
  · exact hsame h (.sendSets rfl)

theorem State.workNext_keeps {s : State} (w : OrderUnderWay) (h : P s) : P (s.workNext w work) := by
  unfold State.workNext
  split
  · exact State.workTurn_keeps hsame hwork w _ _ h
  · exact hsame h (.sendSets rfl)

theorem workTurns_keeps (n : Nat) {s : State} (h : P s) : P (workTurns work n s) := by
  induction n generalizing s with
  | zero => exact h
  | succ n ih =>
    unfold workTurns
    split
    · exact ih (State.workNext_keeps hsame hwork _ h)
    · exact h

theorem State.finishOrder_keeps {s : State} (h : P s) : P (s.finishOrder work) := by
  unfold State.finishOrder
  split
  · exact workTurns_keeps hsame hwork _ h
  · exact h

theorem stationOrder_keeps (c : OrderCode) (v : Verdict) (m : Master) (o : Order) {s : State} (h : P s) :
    P (stationOrder c v work m o s).1 := by
  unfold stationOrder
  split
  · exact h
  · split
    · split
      · rename_i hok
        exact hwork hok h
      · exact h
    · exact hsame h (.of_stations rfl)

theorem State.giveStationOrder_keeps {c : OrderCode} {v : Verdict} {m : Master} {o : Order} {order : OrderWork}
    (horder : order m o = stationOrder c v work m o) {s : State} (h : P s) : P (s.giveStationOrder m o order work) := by
  have hplaced : P (s.modLink m (Link.place o)) := hsame h (.of_stations rfl)
  unfold State.giveStationOrder
  dsimp only
  split
  · have htaken := stationOrder_keeps (work := work) hsame hwork c v m o
      (hsame (t := (s.modLink m (Link.place o)).freeSlot m) hplaced (.of_stations rfl))
    refine State.finishOrder_keeps hsame hwork ?_
    unfold State.takeOrder
    rw [horder]
    dsimp only
    split <;> exact hsame htaken (.sendSets rfl)
  · exact hplaced

end

/-- R47, R53: CLEAR_FAULT keeps the rings. -/
theorem exec_clearFault_histories {a : OrderArgs} {s t : State} (h : exec (.clearFault a) s = .next t) :
    t.histories = s.histories := by
  obtain rfl := Host.Outcome.next.inj h
  refine State.giveStationOrder_keeps (P := fun u => u.histories = s.histories) (fun hu hi => hi.histories.trans hu) ?_ rfl rfl
  intro j u v hok hu
  unfold workClearFault at hok
  split at hok
  · cases hok
  · split_ifs at hok
    cases hok
    simpa using hu

/-- R53: only the station that begins a reconstruction is settling by it. -/
theorem State.beginReconstruction_settling_ne (s : State) {i j : StationNo} (h : i ≠ j) (why : Reconstruction) :
    ((s.beginReconstruction j why).st i).settling = (s.st i).settling := by
  unfold State.beginReconstruction
  rw [State.st_modSt_ne _ _ h, (State.removeAtOnce_work _ j).settling, State.st_modPort_ne _ _ h,
    (s.portSafe_work j).settling]

/-- R46, R88: a station on which SET_SERVICE(in) is accepted has an empty ring. -/
theorem workServiceIn_history {m : Master} {j : StationNo} {s t : State} (h : workServiceIn m j s = .ok t) (i : StationNo)
    (hs : (s.st i).settling = true → s.histories i = []) : (t.st i).settling = true → t.histories i = [] := by
  unfold workServiceIn at h
  split at h
  · cases h
  · split_ifs at h
    cases h
    rw [State.beginReconstruction_histories]
    by_cases hij : i = j
    · subst hij
      simp [State.histories]
    · rw [State.beginReconstruction_settling_ne _ hij]
      simpa [State.histories, hij] using hs

/-- R46, R88: a station that SET_SERVICE(in) makes settle has an empty ring. -/
theorem exec_setServiceIn_history {a : OrderArgs} {s t : State} {i : StationNo} (h : exec (.setServiceIn a) s = .next t)
    (hs : (s.st i).settling = false) : (t.st i).settling = true → t.histories i = [] := by
  obtain rfl := Host.Outcome.next.inj h
  refine State.giveStationOrder_keeps (P := fun u => (u.st i).settling = true → u.histories i = []) ?_
    (fun hok hu => workServiceIn_history hok i hu) rfl (by simp [hs])
  intro u v hu hi hv
  rw [hi.histories]
  exact hu (by simpa only [Station.settling, (hi i).1] using hv)

/-! ### Berth reset -/

/-- R121: an order whose work keeps the rings. -/
theorem State.giveOrder_histories (s : State) (m : Master) (o : Order) {work : OrderWork}
    (h : ∀ u, (work m o u).1.histories = u.histories) : (s.giveOrder m o work).histories = s.histories := by
  unfold State.giveOrder State.takeOrder
  dsimp only
  split_ifs
  · split
    · rw [State.sendSets_histories, State.answer_histories, h]
      rfl
    · rw [State.sendSets_histories, h]
      rfl
  · rfl

@[simp] theorem resetStations_histories (l : List StationNo) (s : State) : (resetStations l s).histories = s.histories := by
  induction l generalizing s with
  | nil => rfl
  | cons i rest ih =>
    rw [resetStations, ih]
    simp [State.resetStation]

@[simp] theorem reconstructEach_histories (why : Reconstruction) (picks : Station → Bool) (l : List StationNo) (s : State) :
    (reconstructEach why picks l s).histories = s.histories := by
  induction l generalizing s with
  | nil => rfl
  | cons i rest ih =>
    rw [reconstructEach, ih]
    split <;> simp

@[simp] theorem State.resetQuickRelease_histories (s : State) : s.resetQuickRelease.histories = s.histories := by
  unfold State.resetQuickRelease
  dsimp only
  split <;> rfl

@[simp] theorem State.beginBerthReset_histories (s : State) : s.beginBerthReset.histories = s.histories := by
  refine (State.histories_of_map (f := Station.resetTension) rfl fun _ => rfl).trans ?_
  rw [State.resetQuickRelease_histories, State.enterPhase_histories]
  exact (DriveWork.lists (resetStations allStations s) [] [] [] _).histories.trans (resetStations_histories allStations s)

@[simp] theorem State.finishBerthReset_histories (s : State) : s.finishBerthReset.histories = s.histories := by
  simp [State.finishBerthReset]

theorem orderBerthReset_histories (m : Master) (o : Order) (s : State) :
    (orderBerthReset m o s).1.histories = s.histories := by
  unfold orderBerthReset
  split
  · rfl
  · split
    · rfl
    · split_ifs
      · rfl
      · rw [State.reload_histories, State.beginBerthReset_histories]
      · simp

theorem exec_berthReset_histories {a : OrderArgs} {s t : State} (h : exec (.berthReset a) s = .next t) :
    t.histories = s.histories := by
  obtain rfl := Host.Outcome.next.inj h
  exact s.giveOrder_histories _ _ (orderBerthReset_histories _ _)

/-! ### The profile load -/

theorem State.takeUpWrite_histories (s : State) (table index v : Nat) : (s.takeUpWrite table index v).histories = s.histories := by
  unfold State.takeUpWrite
  split_ifs
  · exact s.takeUpLimit_work.histories
  · split <;> rfl
  · rfl
  · rfl

theorem State.writeParam_histories {s t : State} {table index v : Nat} (h : s.writeParam table index v = some t) :
    t.histories = s.histories := by
  obtain ⟨p, -, rfl⟩ := Option.map_eq_some_iff.mp h
  exact State.takeUpWrite_histories _ table index v

theorem applyEntries_histories (es : List ProfileEntry) (s : State) (applied skipped : Nat) :
    (applyEntries es s applied skipped).1.histories = s.histories := by
  induction es generalizing s applied skipped with
  | nil => rfl
  | cons e rest ih =>
    unfold applyEntries
    split
    · rename_i hwrite
      exact (ih _ _ _).trans (State.writeParam_histories hwrite)
    · exact ih _ _ _

@[simp] theorem State.loadProfile_histories (s : State) (responds : Bool) : (s.loadProfile responds).histories = s.histories := by
  unfold State.loadProfile
  split
  · exact applyEntries_histories _ s 0 0
  · rfl
  · rfl

theorem State.endReload_histories (s : State) (r : Reload) (responds : Bool) :
    (s.endReload r responds).histories = s.histories := by
  have hloaded : ({ s with reload := none }.loadProfile responds).histories = s.histories := State.loadProfile_histories _ _
  unfold State.endReload
  dsimp only
  split_ifs <;> simp [hloaded]

theorem exec_profileReloadEnd_histories {responds : Bool} {s t : State} (h : exec (.profileReloadEnd responds) s = .next t) :
    t.histories = s.histories := by
  change execProfileReloadEnd responds s = .next t at h
  unfold execProfileReloadEnd at h
  split at h <;> obtain rfl := Host.Outcome.next.inj h
  · rfl
  · exact s.endReload_histories _ _

/-! ### Power-on and link reset -/

theorem State.afterLoad_histories (s : State) (releaseLine quayLine : Bool) :
    (s.afterLoad releaseLine quayLine).histories = s.histories := by
  unfold State.afterLoad
  dsimp only
  rw [State.sendSets_histories]
  have hseen := reconstructEach_histories .powerOn (fun _ => true) allStations s
  split
  · rw [State.raise_histories]
    exact (State.histories_of_map (f := Station.startWatch _) rfl fun _ => rfl).trans hseen
  · exact (State.histories_of_map (f := Station.startWatch _) rfl fun _ => rfl).trans hseen

/-- R88: the rings at power-on. -/
theorem State.powerOnValues_histories (memory : List Host.Cell) (pending : List Instr) (i : StationNo) :
    (State.powerOnValues memory pending).histories i = [] := by
  simp [State.histories, State.st, State.powerOnValues, Station.powerOn, Tension.powerOn]

theorem exec_powerOn_history {releaseLine quayLine responds : Bool} {n : Nat} {s t : State}
    (h : exec (.powerOn releaseLine quayLine responds n) s = .next t) (i : StationNo) : t.histories i = [] := by
  obtain rfl := Host.Outcome.next.inj h
  rw [State.afterLoad_histories, State.raiseBy_histories, State.loadProfile_histories, State.powerOnValues_histories]

/-- R157: a link reset disowns operations and leaves the rings. -/
theorem State.resetLink_histories (s : State) (m : Master) : (s.resetLink m).histories = s.histories :=
  State.histories_of_map (f := Station.disown m) rfl fun _ => rfl

theorem exec_linkReset_histories {m : Master} {s t : State} (hfree : ∀ w, s.underWay = some w → w.link ≠ m)
    (h : exec (.linkReset m) s = .next t) : t.histories = s.histories := by
  have hwhole : s.applyWhole m = s := by
    unfold State.applyWhole
    split
    · rw [if_neg (hfree _ ‹_›)]
    · rfl
  obtain rfl := Host.Outcome.next.inj h
  rw [hwhole, State.resetLink_histories]

/-- Settles O49: at power-on every ring starts empty, SET_SERVICE(in) empties the ring of a station it takes, the seeding sample is
the first value after either, and the other rows named work through operations that leave every ring. -/
theorem historyRingResets : Obligations.HistoryRingResets := by
  intro s t i
  refine ⟨fun _ _ _ _ h => exec_powerOn_history h i, fun _ h => exec_setServiceIn_history h,
    fun r hblock hcomputed hempty hseed h => ?_, fun _ h => congrFun (exec_berthReset_histories h) i,
    fun _ h => congrFun (exec_profileReloadEnd_histories h) i, fun _ h => congrFun (exec_clearFault_histories h) i,
    fun _ hfree h => congrFun (exec_linkReset_histories hfree h) i⟩
  obtain rfl := Host.Outcome.next.inj h
  exact (congrFun (receiveReportBytes_histories hblock r) i).trans (State.takeReport_seed r hcomputed hempty hseed)

end Sys2Proof.Machine
end

section
/-! R141 to R143: placing an entry in an alert queue, and what an offered alert does to the queue. -/

namespace Sys2Proof.Machine

/-! ### The queue order -/

theorem AlertEntry.before_iff (e f : AlertEntry) :
    e.before f = true ↔ f.level < e.level ∨ (e.level = f.level ∧ e.rank < f.rank) := by
  simp [AlertEntry.before]

theorem AlertEntry.before_trans {e f g : AlertEntry} (hef : e.before f = true) (hfg : f.before g = true) :
    e.before g = true := by
  rw [AlertEntry.before_iff] at *
  omega

/-- R141: the arrival ranks decide between entries of one level, so two entries of different ranks are always ordered. -/
theorem AlertEntry.before_of_not_before {e f : AlertEntry} (hrank : e.rank ≠ f.rank) (h : ¬e.before f = true) :
    f.before e = true := by
  rw [AlertEntry.before_iff] at *
  omega

theorem placeEntry_eq_orderedInsert (e : AlertEntry) (l : List AlertEntry) :
    placeEntry e l = l.orderedInsert (fun e f => e.before f = true) e := by
  induction l with
  | nil => rfl
  | cons f rest ih => simp [placeEntry, List.orderedInsert, ih]

theorem placeEntry_perm (e : AlertEntry) (l : List AlertEntry) : (placeEntry e l).Perm (e :: l) := by
  rw [placeEntry_eq_orderedInsert]
  exact List.perm_orderedInsert _ e l

/-- R141: an entry placed in a queue, its rank none of the queue's, leaves the queue in order. -/
theorem placeEntry_ordered {e : AlertEntry} {l : List AlertEntry} (hl : l.Pairwise fun e f => e.before f = true)
    (hrank : ∀ f ∈ l, e.rank ≠ f.rank) : (placeEntry e l).Pairwise fun e f => e.before f = true := by
  induction hl with
  | nil => exact List.pairwise_singleton _ e
  | @cons f rest hf hrest ih =>
    obtain ⟨hranked, hrest_ranks⟩ := List.forall_mem_cons.mp hrank
    by_cases h : e.before f = true
    · rw [placeEntry, if_pos h]
      exact .cons (List.forall_mem_cons.mpr ⟨h, fun g hg => AlertEntry.before_trans h (hf g hg)⟩) (.cons hf hrest)
    · rw [placeEntry, if_neg h]
      refine .cons (fun g hg => ?_) (ih hrest_ranks)
      obtain rfl | hg := List.mem_cons.mp ((placeEntry_perm e rest).mem_iff.mp hg)
      · exact AlertEntry.before_of_not_before hranked h
      · exact hf g hg

/-! ### Entries equal to an alert -/

theorem AlertEntry.same_comm (e f : AlertEntry) : e.same f = f.same e := by
  simp only [AlertEntry.same, @eq_comm _ f.kind, @eq_comm _ f.subject, @eq_comm _ f.detail]

/-- R138: an entry that differs from one equal to the alert is not equal to it either. -/
theorem AlertEntry.equals_false_of_same_false {e f : AlertEntry} {a : Alert} (he : e.equals a = true)
    (h : e.same f = false) : f.equals a = false := by
  simp only [AlertEntry.equals, Bool.and_eq_true, decide_eq_true_eq] at he
  obtain ⟨⟨hkind, hsubject⟩, hdetail⟩ := he
  rw [AlertEntry.same_comm] at h
  simpa only [AlertEntry.same, AlertEntry.equals, hkind, hsubject, hdetail] using h

/-- R142: the entry found for an alert is the only one of the queue that equals it. -/
theorem find_equals_split {l : List AlertEntry} {a : Alert} {e : AlertEntry}
    (hsame : l.Pairwise fun e f => e.same f = false) (hfind : (l.find? fun f => f.equals a) = some e) :
    ∃ front back, l = front ++ e :: back ∧ e.equals a = true ∧ ∀ f ∈ front ++ back, f.equals a = false := by
  obtain ⟨he, front, back, rfl, -⟩ := List.find?_eq_some_iff_append.mp hfind
  refine ⟨front, back, rfl, he, fun f hf => ?_⟩
  have hmoved := (List.pairwise_middle fun h => by rwa [AlertEntry.same_comm]).mp hsame
  obtain ⟨hothers, -⟩ := List.pairwise_cons.mp hmoved
  exact AlertEntry.equals_false_of_same_false he (hothers f hf)

theorem filter_equals_of_others {l : List AlertEntry} {a : Alert} (h : ∀ f ∈ l, f.equals a = false) :
    l.filter (fun f => !f.equals a) = l :=
  List.filter_eq_self.mpr fun f hf => by simp [h f hf]

/-- R142: a merge leaves the entries that are not equal to the alert. -/
theorem map_merge_of_others {l : List AlertEntry} {a : Alert} {level : Nat} (h : ∀ f ∈ l, f.equals a = false) :
    l.map (fun f => if f.equals a then f.merge level else f) = l :=
  (List.map_congr_left fun f hf => by simp [h f hf]).trans (List.map_id l)

/-! ### The parts of a sound queue -/

theorem Mailbox.sound_iff (threshold : Nat) (q : Mailbox) :
    q.sound threshold = true
      ↔ q.entries.length ≤ queueCapacity ∧ (q.entries.Pairwise fun e f => e.same f = false)
        ∧ (q.entries.Pairwise fun e f => e.rank ≠ f.rank) ∧ (q.entries.Pairwise fun e f => e.before f = true)
        ∧ (∀ e ∈ q.entries, 1 ≤ e.mergeCount ∧ e.mergeCount ≤ 255 ∧ e.rank < q.nextRank)
        ∧ q.attention = attentionOf threshold q.entries := by
  simp [Mailbox.sound, and_assoc]

/-! ### The branches of an offer -/

section
variable {q : Mailbox} {a : Alert} {e : AlertEntry} {level : Nat}

theorem Mailbox.offer_merges (hfind : (q.entries.find? fun f => f.equals a) = some e) :
    q.offer a level
      = { q with entries := placeEntry (e.merge level) (q.entries.filter fun f => !f.equals a) } := by
  simp [Mailbox.offer, hfind]

theorem find_equals_eq_none (hnew : ∀ f ∈ q.entries, f.equals a = false) :
    (q.entries.find? fun f => f.equals a) = none := by
  simpa using hnew

theorem Mailbox.offer_joins (hnew : ∀ f ∈ q.entries, f.equals a = false) (hroom : q.entries.length < queueCapacity) :
    q.offer a level
      = { q with entries := placeEntry (newEntry a level q.nextRank) q.entries, nextRank := q.nextRank + 1 } := by
  simp [Mailbox.offer, find_equals_eq_none hnew, hroom]

theorem Mailbox.offer_displaces (hnew : ∀ f ∈ q.entries, f.equals a = false) (hfull : queueCapacity ≤ q.entries.length)
    (hlast : q.entries.getLast? = some e) (hlevel : e.level < level) :
    q.offer a level
      = { q with
          entries := placeEntry (newEntry a level q.nextRank) q.entries.dropLast
          nextRank := q.nextRank + 1
          lost := true } := by
  simp [Mailbox.offer, find_equals_eq_none hnew, Nat.not_lt.mpr hfull, hlast, hlevel]

theorem Mailbox.offer_loses (hnew : ∀ f ∈ q.entries, f.equals a = false) (hfull : queueCapacity ≤ q.entries.length)
    (hlast : q.entries.getLast? = some e) (hlevel : level ≤ e.level) : q.offer a level = { q with lost := true } := by
  simp [Mailbox.offer, find_equals_eq_none hnew, Nat.not_lt.mpr hfull, hlast, Nat.not_lt.mpr hlevel]

end

/-- R142, R143: the ways an alert can go that is offered to a queue. -/
theorem Mailbox.offer_cases (q : Mailbox) (a : Alert) (level : Nat) :
    (∃ e, (q.entries.find? fun f => f.equals a) = some e)
      ∨ (∀ f ∈ q.entries, f.equals a = false)
        ∧ (q.entries.length < queueCapacity
          ∨ queueCapacity ≤ q.entries.length ∧ ∃ e, q.entries.getLast? = some e ∧ (e.level < level ∨ level ≤ e.level)) := by
  cases hfind : q.entries.find? fun f => f.equals a with
  | some e => exact .inl ⟨e, rfl⟩
  | none =>
    refine .inr ⟨by simpa using hfind, (Nat.lt_or_ge _ _).imp_right fun hfull => ⟨hfull, ?_⟩⟩
    have hne : q.entries ≠ [] := List.ne_nil_of_length_pos (Nat.lt_of_lt_of_le (by decide) hfull)
    exact ⟨_, List.getLast?_eq_some_getLast hne, Nat.lt_or_ge _ _⟩

/-! ### An offer to a sound queue -/

section
variable {q : Mailbox} {a : Alert} {threshold : Nat} (hq : q.sound threshold = true)
include hq

/-- R142: a merge changes the entry equal to the alert and no other, wherever its new level places it. -/
theorem Mailbox.offer_merges_perm {e : AlertEntry} (he : e ∈ q.entries) (hequal : e.equals a = true) (level : Nat) :
    (q.offer a level).lost = q.lost ∧ (q.offer a level).nextRank = q.nextRank
      ∧ (q.offer a level).entries.Perm (q.entries.map fun f => if f.equals a then f.merge level else f) := by
  obtain ⟨-, hsame, -⟩ := (q.sound_iff threshold).mp hq
  obtain ⟨found, hfind⟩ := Option.isSome_iff_exists.mp
    ((List.find?_isSome (p := fun f => f.equals a)).mpr ⟨e, he, hequal⟩)
  rw [Mailbox.offer_merges hfind]
  refine ⟨rfl, rfl, (placeEntry_perm _ _).trans ?_⟩
  obtain ⟨front, back, hsplit, hfound, hothers⟩ := find_equals_split hsame hfind
  obtain ⟨hfront, hback⟩ := List.forall_mem_append.mp hothers
  have hkept : q.entries.filter (fun f => !f.equals a) = front ++ back := by
    simp [hsplit, hfound, filter_equals_of_others hfront, filter_equals_of_others hback]
  have hmapped : q.entries.map (fun f => if f.equals a then f.merge level else f)
      = front ++ found.merge level :: back := by
    simp [hsplit, hfound, map_merge_of_others hfront, map_merge_of_others hback]
  rw [hkept, hmapped]
  exact List.perm_middle.symm

/-- R141: a branch that places an entry places it in a part of the queue, and with a rank that no entry of that part has. -/
theorem Mailbox.offer_ordered (a : Alert) (level : Nat) :
    (q.offer a level).entries.Pairwise fun e f => e.before f = true := by
  obtain ⟨-, -, hranks, hordered, hcounts, -⟩ := (q.sound_iff threshold).mp hq
  have hfresh : ∀ f ∈ q.entries, (newEntry a level q.nextRank).rank ≠ f.rank := by
    intro f hf
    obtain ⟨-, -, hrank⟩ := hcounts f hf
    exact hrank.ne'
  obtain ⟨e, hfind⟩ | ⟨hnew, hroom | ⟨hfull, e, hlast, hlevel | hlevel⟩⟩ := q.offer_cases a level
  · rw [Mailbox.offer_merges hfind]
    refine placeEntry_ordered (hordered.sublist List.filter_sublist) fun f hf hrank => ?_
    obtain ⟨hmem, hother⟩ := List.mem_filter.mp hf
    obtain rfl := List.inj_on_of_nodup_map (List.pairwise_map.mpr hranks) (List.mem_of_find?_eq_some hfind) hmem hrank
    simp [List.find?_some hfind] at hother
  · rw [Mailbox.offer_joins hnew hroom]
    exact placeEntry_ordered hordered hfresh
  · rw [Mailbox.offer_displaces hnew hfull hlast hlevel]
    exact placeEntry_ordered (hordered.sublist (List.dropLast_sublist _)) fun f hf => hfresh f (List.mem_of_mem_dropLast hf)
  · rw [Mailbox.offer_loses hnew hfull hlast hlevel]
    exact hordered

/-- R143: the last entry has the lowest level, and in it the latest rank. -/
theorem Mailbox.last_is_lowest {e : AlertEntry} (hlast : q.entries.getLast? = some e) :
    ∀ f ∈ q.entries, f = e ∨ e.level < f.level ∨ (e.level = f.level ∧ f.rank < e.rank) := by
  obtain ⟨-, -, -, hordered, -⟩ := (q.sound_iff threshold).mp hq
  obtain ⟨front, hsplit⟩ := List.getLast?_eq_some_iff.mp hlast
  rw [hsplit] at hordered ⊢
  intro f hf
  obtain hfront | hf := List.mem_append.mp hf
  · obtain ⟨-, -, hacross⟩ := List.pairwise_append.mp hordered
    have hbefore := hacross f hfront e (List.mem_singleton_self e)
    rw [AlertEntry.before_iff, eq_comm (a := f.level)] at hbefore
    exact .inr hbefore
  · exact .inl (List.mem_singleton.mp hf)

end

/-- Settles O52: each clause is a branch of the offer, and placing an entry keeps the others and the queue order. -/
theorem offeredAlertsJoin : Obligations.OfferedAlertsJoin := by
  intro q a level threshold hq
  refine ⟨Mailbox.offer_ordered hq a level, fun e he hequal => Mailbox.offer_merges_perm hq he hequal level,
    fun hnew => ⟨fun hroom => ?_, fun e hfull hlast =>
      ⟨Mailbox.last_is_lowest hq hlast, ?_, fun hlevel => ?_, fun hlevel => ?_⟩⟩⟩
  · rw [Mailbox.offer_joins hnew hroom]
    exact ⟨rfl, rfl, placeEntry_perm _ _⟩
  · obtain hlevel | hlevel := Nat.lt_or_ge e.level level
    · rw [Mailbox.offer_displaces hnew hfull hlast hlevel]
    · rw [Mailbox.offer_loses hnew hfull hlast hlevel]
  · rw [Mailbox.offer_loses hnew hfull hlast hlevel]
  · rw [Mailbox.offer_displaces hnew hfull hlast hlevel]
    exact placeEntry_perm _ _

end Sys2Proof.Machine
end

section
/-! R164, R165: the load of the profile. What the header's bytes decide, what the image's entries are, and what applying them
leaves. -/

namespace Sys2Proof.Machine

/-! ### The image's bytes -/

/-- R164: a memory that does not respond. -/
theorem imageByte_unresponsive (mem : List Host.Cell) (n : Nat) : imageByte false mem n = 0xFF := rfl

section
variable (responds : Bool) (mem : List Host.Cell)

@[simp] theorem imageNumber_zero (a : Nat) : imageNumber responds mem a 0 = 0 := rfl

/-- Section 11.2: the numbers of the image stand low byte first. -/
@[simp] theorem imageNumber_succ (a count : Nat) :
    imageNumber responds mem a (count + 1)
      = (imageByte responds mem a).toNat + 256 * imageNumber responds mem (a + 1) count := by
  simp [imageNumber, numberOf, List.range_succ_eq_map, Function.comp_def, Nat.add_left_comm, Nat.add_comm]

/-- Section 11.2: the byte count stands in bytes 2 and 3. -/
theorem imageEntries_length :
    (imageEntries responds mem).length
      = min 2044 ((imageByte responds mem 2).toNat + 256 * (imageByte responds mem 3).toNat) / 6 := by
  simp [imageEntries]

/-- Section 11.2: the six bytes of entry `k`. -/
theorem imageEntry_bytes (k : Nat) :
    imageEntry responds mem k
      = { table := (imageByte responds mem (4 + 6 * k)).toNat
          index := (imageByte responds mem (5 + 6 * k)).toNat
          value := (imageByte responds mem (6 + 6 * k)).toNat + 256 * ((imageByte responds mem (7 + 6 * k)).toNat
            + 256 * ((imageByte responds mem (8 + 6 * k)).toNat + 256 * (imageByte responds mem (9 + 6 * k)).toNat)) } := by
  simp [imageEntry, Nat.add_right_comm]

end

section
variable {responds : Bool} {mem : List Host.Cell}

theorem imageEntry_of_getElem? {k : Nat} {e : ProfileEntry} (h : (imageEntries responds mem)[k]? = some e) :
    e = imageEntry responds mem k := by
  obtain ⟨hk, rfl⟩ := List.getElem?_eq_some_iff.mp h
  simp [imageEntries]

/-! ### The header -/

theorem imageResult_absent (h : imageByte responds mem 0 = 0xFF) : imageResult responds mem = .absent := if_pos h

theorem imageResult_invalid (h : imageByte responds mem 0 ≠ 0xFF)
    (hbad : imageByte responds mem 0 ≠ 0xC3 ∨ imageByte responds mem 1 ≠ 1) : imageResult responds mem = .invalid := by
  have hjudged : ¬(imageByte responds mem 0 = 0xC3 ∧ imageByte responds mem 1 = 1) := not_and_or.mpr hbad
  rw [imageResult, if_neg h, if_neg]
  simpa using hjudged

theorem imageResult_loaded (hsignature : imageByte responds mem 0 = 0xC3) (hversion : imageByte responds mem 1 = 1) :
    imageResult responds mem = .loaded := by
  simp [imageResult, hsignature, hversion]

end

/-! ### The entries applied -/

/-- What follows at once from a write leaves every item as the write left it. -/
@[simp] theorem State.takeUpWrite_params (s : State) (table index v : Nat) :
    (s.takeUpWrite table index v).params = s.params := by
  unfold State.takeUpWrite
  split_ifs
  · exact s.takeUpLimit_work.params
  · split <;> rfl
  · rfl
  · rfl

/-- R132: the state's write is the tables' write. -/
theorem State.writeParam_params (s : State) (table index v : Nat) :
    (s.writeParam table index v).map State.params = s.params.write table index v := by
  simp [State.writeParam, Function.comp_def]

/-- R165: the entries applied to the state are the entries folded over its tables, from the counts so far. -/
theorem applyEntries_folds (es : List ProfileEntry) (s : State) (applied skipped : Nat) :
    Prod.map State.params id (applyEntries es s applied skipped) = es.foldl loadEntry (s.params, applied, skipped) := by
  induction es generalizing s applied skipped with
  | nil => rfl
  | cons e rest ih =>
    have htables := s.writeParam_params e.table e.index e.value
    rw [List.foldl_cons, applyEntries, loadEntry, ← htables]
    cases s.writeParam e.table e.index e.value with
    | none => exact ih s applied (skipped + 1)
    | some t => exact ih t (applied + 1) skipped

/-- R165: an entry is counted once, as applied or as skipped. -/
theorem loadEntry_counts (x : Params × Nat × Nat) (e : ProfileEntry) :
    (loadEntry x e).2.1 + (loadEntry x e).2.2 = x.2.1 + x.2.2 + 1 := by
  unfold loadEntry
  split
  · exact Nat.add_right_comm _ _ _
  · rfl

theorem foldl_loadEntry_counts (es : List ProfileEntry) (x : Params × Nat × Nat) :
    (es.foldl loadEntry x).2.1 + (es.foldl loadEntry x).2.2 = x.2.1 + x.2.2 + es.length := by
  induction es generalizing x with
  | nil => rfl
  | cons e rest ih =>
    rw [List.foldl_cons, ih, loadEntry_counts, List.length_cons, Nat.add_assoc, Nat.add_comm 1]

theorem loadEntries_counts (p : Params) (es : List ProfileEntry) :
    (loadEntries p es).2.1 + (loadEntries p es).2.2 = es.length :=
  (foldl_loadEntry_counts es (p, 0, 0)).trans (Nat.zero_add _)

/-! ### The load -/

section
variable {s : State} {responds : Bool}

theorem State.loadProfile_absent (h : imageResult responds s.memory = .absent) :
    s.loadProfile responds = { s with profile := ⟨.absent, 0, 0⟩ } := by
  simp [State.loadProfile, h]

theorem State.loadProfile_invalid (h : imageResult responds s.memory = .invalid) :
    s.loadProfile responds = { s with profile := ⟨.invalid, 0, 0⟩ } := by
  simp [State.loadProfile, h]

/-- R165: a load of a good image. -/
theorem State.loadProfile_loaded (h : imageResult responds s.memory = .loaded) :
    let r := loadEntries s.params (imageEntries responds s.memory)
    (s.loadProfile responds).params = r.1 ∧ (s.loadProfile responds).profile = ⟨.loaded, r.2.1, r.2.2⟩ := by
  have hfolds := applyEntries_folds (imageEntries responds s.memory) s 0 0
  simp [State.loadProfile, h, loadEntries, ← hfolds]

/-- R164, R165: the tables and the status after a load, for each of its results. -/
theorem State.loadProfile_follows (s : State) (responds : Bool) :
    LoadFollows s.params (s.loadProfile responds).params (s.loadProfile responds).profile (imageResult responds s.memory)
      (imageEntries responds s.memory) := by
  cases hresult : imageResult responds s.memory with
  | loaded =>
    obtain ⟨hparams, hprofile⟩ := State.loadProfile_loaded hresult
    rw [hparams, hprofile]
    exact ⟨rfl, fun _ => ⟨rfl, rfl, rfl⟩, fun hnot => absurd rfl hnot⟩
  | absent =>
    rw [State.loadProfile_absent hresult]
    exact ⟨rfl, nofun, fun _ => ⟨rfl, rfl, rfl⟩⟩
  | invalid =>
    rw [State.loadProfile_invalid hresult]
    exact ⟨rfl, nofun, fun _ => ⟨rfl, rfl, rfl⟩⟩

end

/-- Settles O47: each header has one result, whose load is known; a good image's entries are folded over the tables, and each is
counted once. -/
theorem headerIsJudged : Obligations.HeaderIsJudged := by
  intro s responds
  refine ⟨?_, fun hblank => State.loadProfile_absent (imageResult_absent hblank),
    fun hfilled hbad => State.loadProfile_invalid (imageResult_invalid hfilled hbad), fun hsignature hversion => ?_,
    s.loadProfile_follows responds⟩
  · rintro rfl
    exact imageByte_unresponsive s.memory
  · obtain ⟨-, hprofile⟩ := State.loadProfile_loaded (imageResult_loaded hsignature hversion)
    have hlength := imageEntries_length responds s.memory
    rw [hprofile]
    refine ⟨rfl, (loadEntries_counts _ _).trans hlength, hlength, fun k e hentry => ?_⟩
    rw [imageEntry_of_getElem? hentry, imageEntry_bytes]
    exact ⟨rfl, rfl, rfl⟩

end Sys2Proof.Machine
end
